-- ==== Sys2Proof/Word.lean ====
section
/-!
DEFINITION. The word types of the UJ364's interfaces and the numbers that address its tables.
-/

namespace Sys2Proof

/-- One byte of a frame on a master port, the metering line or the selector bus. -/
abbrev Byte := BitVec 8

/-- A two-byte field of a frame (R176). -/
abbrev Half := BitVec 16

/-- A four-byte field: part time, serials and sequence numbers (R181, R185, R182). -/
abbrev Word := BitVec 32

/-- A connection number, 0 to 63 (R1). -/
abbrev ConnId := Fin 64

/-- The number of a trigger entry, 0 to 7 (R81). -/
abbrev TriggerId := Fin 8

end Sys2Proof
end

