-- ==== Sys2Proof/Syntax.lean ====
section
/-!
DEFINITION. The commands of the UJ364: one constructor of `Instr` for each row of spec/opcode_table.json, with the
row's operands, and the types those operands have.
-/

namespace Sys2Proof

/-- The three master ports (chapter 9). -/
inductive Port where
  | op | sp | pp
  deriving DecidableEq, Repr

/-- A phase of the feeder. "UNKNOWN" and "none" are the absent case of an `Option Phase`. -/
inductive Phase where
  | p1 | p2 | p3
  deriving DecidableEq, Repr

/-- One value for each phase. -/
structure PerPhase (α : Type) where
  p1 : α
  p2 : α
  p3 : α
  deriving DecidableEq, Repr

/-- The two transfer contexts, the first and the second as READ_STATUS shows them (R130, R152). -/
inductive CtxId where
  | first | second
  deriving DecidableEq, Repr

/-- The states a selector unit reports (R109). -/
inductive UnitState where
  | steady | armed | transferring | fault
  deriving DecidableEq, Repr

/-- The poll report fields of a poll reply (R113, R178). The power sample is kept as received (R125). -/
structure PollReport where
  closedPhase : Option Phase
  unitState : UnitState
  armedTarget : Option Phase
  power : Half
  localEngaged : Bool
  contactFault : Bool
  overtemperature : Bool
  counter : Byte
  deriving DecidableEq, Repr

/-- What a unit answers to ARM when it refuses it (R135). -/
inductive ArmRefusal where
  | localSwitch | busy | fault
  deriving DecidableEq, Repr

/-- One phase's figures in a window record, as received (section 2.1). -/
structure PhaseSample where
  power : Half
  voltage : Half
  current : Half
  valid : Bool
  deriving DecidableEq, Repr

/-- A window record by its fields (section 2.1, R179). -/
structure WindowRecord where
  sequence : Byte
  phases : PerPhase PhaseSample
  deriving DecidableEq, Repr

/-- The commands. A request row carries its port and its parameter bytes in the order of R180; a reply row carries
the bus address and tag its frame bears, so that R113's test is the model's; an expiry row names the connection or
the context whose count runs out. -/
inductive Instr where
  | powerOn
  | oneSecondEvent
  | frameGapTimeout (port : Port) (received : List Byte)
  | rejectedFrame (port : Port) (received : List Byte)
  | frameBuffered (port : Port) (payload : List Byte)
  | responseTransmitted (port : Port)
  | identify (port : Port) (params : List Byte)
  | readStatus (port : Port) (params : List Byte)
  | readPhases (port : Port) (params : List Byte)
  | readConnection (port : Port) (params : List Byte)
  | readTable (port : Port) (params : List Byte)
  | readQueue (port : Port) (params : List Byte)
  | readLog (port : Port) (params : List Byte)
  | readSetting (port : Port) (params : List Byte)
  | move (port : Port) (params : List Byte)
  | cancel (port : Port) (params : List Byte)
  | reprioritize (port : Port) (params : List Byte)
  | pin (port : Port) (params : List Byte)
  | unpin (port : Port) (params : List Byte)
  | unpinAll (port : Port) (params : List Byte)
  | hold (port : Port) (params : List Byte)
  | release (port : Port) (params : List Byte)
  | pauseBalancer (port : Port) (params : List Byte)
  | resumeBalancer (port : Port) (params : List Byte)
  | clearFault (port : Port) (params : List Byte)
  | survey (port : Port) (params : List Byte)
  | clearAlarms (port : Port) (params : List Byte)
  | setAlarmMask (port : Port) (params : List Byte)
  | writeSetting (port : Port) (params : List Byte)
  | writeConnection (port : Port) (params : List Byte)
  | writeTrigger (port : Port) (params : List Byte)
  | saveSettings (port : Port) (params : List Byte)
  | saveEnd
  | restart (port : Port) (params : List Byte)
  | restartTakesEffect
  | setTime (port : Port) (params : List Byte)
  | acceptedWindow (record : WindowRecord)
  | quietCountExpiry
  | meteringRecordDropped (received : List Byte)
  | meteringByteGap (received : List Byte)
  | stalenessExpiry
  | pollReply (address tag : Byte) (serial : Word) (report : PollReport)
  | armedReply (address tag : Byte) (serial : Word)
  | armRefused (address tag : Byte) (serial : Word) (reason : ArmRefusal)
  | firingReply (address tag : Byte) (serial : Word)
  | notArmedReply (address tag : Byte) (serial : Word)
  | idleReply (address tag : Byte) (serial : Word)
  | busFrameDiscarded (frame : List Byte)
  | lapse
  | routineSpacingExpiry
  | surveyTimerExpiry
  | arrivalHoldExpiry (conn : ConnId)
  | settleExpiry (conn : ConnId)
  | expired (conn : ConnId)
  | armDeadlineExpiry (ctx : CtxId)
  | confirmTimerExpiry (ctx : CtxId)
  | confirmDeadlineExpiry (ctx : CtxId)
  | unknownCommand (port : Port) (code : Byte) (params : List Byte)
  | supplyLost
  deriving DecidableEq, Repr

end Sys2Proof
end

