-- ==== Sys2Proof/WellFormed.lean ====
section
/-!
DEFINITION. Which commands are well formed: what their sources can send at all. A command outside this form still
has a meaning (the step is total); the form only says what a frame can carry.
-/

namespace Sys2Proof

/-- A request frame has a length of 1 to 120 payload bytes, one of them the command code (R167). -/
def paramsFit (params : List Byte) : Bool := decide (params.length ≤ 119)

/-- A unit's address is 1 to 64 (R113). -/
def addressFits (address : Byte) : Bool := decide (1 ≤ address.toNat ∧ address.toNat ≤ 64)

/-- The form of each command's operands. -/
def Instr.wf : Instr → Bool
  | .powerOn => true
  | .oneSecondEvent => true
  | .frameGapTimeout _ _ => true
  | .rejectedFrame _ _ => true
  | .frameBuffered _ payload => decide (1 ≤ payload.length ∧ payload.length ≤ 120)
  | .responseTransmitted _ => true
  | .identify _ ps => paramsFit ps
  | .readStatus _ ps => paramsFit ps
  | .readPhases _ ps => paramsFit ps
  | .readConnection _ ps => paramsFit ps
  | .readTable _ ps => paramsFit ps
  | .readQueue _ ps => paramsFit ps
  | .readLog _ ps => paramsFit ps
  | .readSetting _ ps => paramsFit ps
  | .move _ ps => paramsFit ps
  | .cancel _ ps => paramsFit ps
  | .reprioritize _ ps => paramsFit ps
  | .pin _ ps => paramsFit ps
  | .unpin _ ps => paramsFit ps
  | .unpinAll _ ps => paramsFit ps
  | .hold _ ps => paramsFit ps
  | .release _ ps => paramsFit ps
  | .pauseBalancer _ ps => paramsFit ps
  | .resumeBalancer _ ps => paramsFit ps
  | .clearFault _ ps => paramsFit ps
  | .survey _ ps => paramsFit ps
  | .clearAlarms _ ps => paramsFit ps
  | .setAlarmMask _ ps => paramsFit ps
  | .writeSetting _ ps => paramsFit ps
  | .writeConnection _ ps => paramsFit ps
  | .writeTrigger _ ps => paramsFit ps
  | .saveSettings _ ps => paramsFit ps
  | .saveEnd => true
  | .restart _ ps => paramsFit ps
  | .restartTakesEffect => true
  | .setTime _ ps => paramsFit ps
  | .acceptedWindow _ => true
  | .quietCountExpiry => true
  | .meteringRecordDropped _ => true
  | .meteringByteGap _ => true
  | .stalenessExpiry => true
  | .pollReply a _ _ _ => addressFits a
  | .armedReply a _ _ => addressFits a
  | .armRefused a _ _ _ => addressFits a
  | .firingReply a _ _ => addressFits a
  | .notArmedReply a _ _ => addressFits a
  | .idleReply a _ _ => addressFits a
  | .busFrameDiscarded _ => true
  | .lapse => true
  | .routineSpacingExpiry => true
  | .surveyTimerExpiry => true
  | .arrivalHoldExpiry _ => true
  | .settleExpiry _ => true
  | .expired _ => true
  | .armDeadlineExpiry _ => true
  | .confirmTimerExpiry _ => true
  | .confirmDeadlineExpiry _ => true
  | .unknownCommand _ _ ps => paramsFit ps
  | .supplyLost => true

end Sys2Proof
end

