-- ==== Sys2Proof/Config.lean ====
section
/-!
DEFINITION. What one UJ364 fixes and the manual does not state: opaque constants, so that no proof can rest on a
value of theirs. The fixed figures of the manual stand here too, each with its rule.
-/

namespace Sys2Proof

namespace Config

/-- The hardware revision IDENTIFY returns (R173); the manual states no value (log entry 11). -/
opaque hardwareRevision : Byte

/-- The firmware revision IDENTIFY returns (R173); the manual states no value (log entry 11). -/
opaque firmwareRevision : Byte

/-- FREE VALUE. Whether, when ONE event withdraws both contexts' balancer orders, the second context is reached
first. R147 and R149 reach both "at once", and R182 leaves the order of their records to them; the argument is the
log's next sequence number, so that each event has a value of its own (log entry 12). -/
opaque secondContextFirst : Word → Bool

/-- The confirm timer's interval, 100 ms (R138). -/
def confirmInterval : Nat := 100

/-- The retries of a lapsed ARM, 2 (R136). -/
def armRetries : Nat := 2

/-- The room of the move queue, 16 orders (R89). -/
def queueRoom : Nat := 16

/-- The room of the move log, 64 records (R183). -/
def logRoom : Nat := 64

/-- The orders READ_QUEUE lists at most, 6 (R106). -/
def queueListed : Nat := 6

/-- The bytes of a metering record after its start byte: 20 bytes of fields and 2 of CRC (R179). -/
def recordBytes : Nat := 22

end Config

end Sys2Proof
end

