-- ==== Sys2Proof/Machine/State.lean ====
section
/-!
DEFINITION. The state of the UJ364 as plain data, block by block (section 2.1 of the scope file), the two reason types
of a step, and the state after reset.
-/

namespace Sys2Proof.Machine

/-- The machine never stops with a fault: every rule of the manual gives an effect, a status or a discard.
The type has no constructor, so nobody raises one (safe). -/
inductive Fault where
  deriving DecidableEq, Repr

/-- The one refusal the host asks for. -/
inductive Refusal where
  /-- Raised by an arm of `exec` whose command has no meaning yet; no arm of this model raises it. Safe: the step stops. -/
  | notModelled (mnemonic : String)
  deriving DecidableEq, Repr

/-! ### Collections -/

/-- One value for each master port. -/
structure PerPort (α : Type) where
  op : α
  sp : α
  pp : α
  deriving DecidableEq, Repr

/-- A set of phases (R3, R81). -/
abbrev PhaseSet := PerPhase Bool

/-- A connection's pin set: a subset of OP, SP, PP and LOCAL (1.1.1). -/
structure PinSet where
  op : Bool
  sp : Bool
  pp : Bool
  localSwitch : Bool
  deriving DecidableEq, Repr

/-- The hold set: a subset of OP and PP (8.1). -/
structure HoldSet where
  op : Bool
  pp : Bool
  deriving DecidableEq, Repr

/-- The eight alarm conditions, in the order of their bits (R162, R176). -/
inductive Alarm where
  | unitLost | unitMismatch | transferFault | meteringLost | phaseLow | phaseHigh | holdChanged | settingsDefaulted
  deriving DecidableEq, Repr

/-- A set of alarm conditions: an alarm set or an alarm mask (8.3, 8.4). -/
structure AlarmSet where
  unitLost : Bool
  unitMismatch : Bool
  transferFault : Bool
  meteringLost : Bool
  phaseLow : Bool
  phaseHigh : Bool
  holdChanged : Bool
  settingsDefaulted : Bool
  deriving DecidableEq, Repr

/-! ### Settings (chapter 11) -/

/-- A connection's kind (R2). -/
inductive Kind where
  | unused | movable | fixed | threePhase
  deriving DecidableEq, Repr

/-- A connection's configuration fields (1.1.1). -/
structure ConnConfig where
  kind : Kind
  allowed : PhaseSet
  expectedSerial : Word
  deriving DecidableEq, Repr

/-- The quantity a trigger entry watches (R81). -/
inductive Quantity where
  | phasePower | phaseCurrent | phaseVoltage | powerStep | unbalance
  deriving DecidableEq, Repr

/-- A trigger's comparison (R81). -/
inductive Comparison where
  | above | below
  deriving DecidableEq, Repr

/-- A trigger entry's configuration fields (R81). -/
structure TriggerConfig where
  enabled : Bool
  phases : PhaseSet
  quantity : Quantity
  comparison : Comparison
  threshold : Int
  persistence : Nat
  deriving DecidableEq, Repr

/-- The numeric settings, in the order of their numbers 0 to 28 (R188). -/
inductive SettingId where
  | balancerEnable | windowLength | vLow | vHigh | voltageHysteresis | deglitchWindows | phaseRating | gainFloor
  | minimumLoad | planDepth | balanceInterval | uStart | uStop | quietWindows | masterLifetime | balancerLifetime
  | smoothingShift | settleInterval | dailyBudget | routineSpacing | surveyInterval | arrivalHold | lapseLimit
  | deadInterval | armHold | confirmTimeout | baudOp | baudSp | baudPp
  deriving DecidableEq, Repr

/-- A setting's number (R188). -/
def SettingId.number : SettingId → Fin 29
  | .balancerEnable => 0 | .windowLength => 1 | .vLow => 2 | .vHigh => 3 | .voltageHysteresis => 4
  | .deglitchWindows => 5 | .phaseRating => 6 | .gainFloor => 7 | .minimumLoad => 8 | .planDepth => 9
  | .balanceInterval => 10 | .uStart => 11 | .uStop => 12 | .quietWindows => 13 | .masterLifetime => 14
  | .balancerLifetime => 15 | .smoothingShift => 16 | .settleInterval => 17 | .dailyBudget => 18
  | .routineSpacing => 19 | .surveyInterval => 20 | .arrivalHold => 21 | .lapseLimit => 22 | .deadInterval => 23
  | .armHold => 24 | .confirmTimeout => 25 | .baudOp => 26 | .baudSp => 27 | .baudPp => 28

/-- One copy of everything the stored image holds (R187): the working settings are one, the image another. -/
structure Settings where
  numeric : Vector Nat 29
  conns : Vector ConnConfig 64
  triggers : Vector TriggerConfig 8
  masks : PerPort AlarmSet
  deriving DecidableEq, Repr

/-! ### The connection table (chapter 1) and what the bus controller keeps per connection (R119, R125) -/

/-- Presence (R6). -/
inductive Presence where
  | absent | arriving | present | lapsing | mismatch
  deriving DecidableEq, Repr

/-- The state before a lapse (R119). -/
inductive BeforeLapse where
  | arriving | present
  deriving DecidableEq, Repr

/-- Motion (R14). -/
inductive Motion where
  | idle | queued | arming | armed | fired | faulted
  deriving DecidableEq, Repr

/-- Why a connection is FAULTED (R150). -/
inductive FaultCause where
  | openContact | unconfirmed | unitFault
  deriving DecidableEq, Repr

/-- The run-time fields of a connection record (1.1.1), with the fault cause (R150), the presence machine's own
fields (R119), the last poll report (R125), and whether the first sample after ABSENT is still awaited (R9). -/
structure Connection where
  presence : Presence
  arrivalHold : Nat
  motion : Motion
  recordedPhase : Option Phase
  load : Int
  settle : Nat
  transfersToday : Nat
  pins : PinSet
  lastSerial : Word
  faultCause : Option FaultCause
  lapseCount : Nat
  beforeLapse : Option BeforeLapse
  identitySerial : Word
  lastReport : Option PollReport
  directSample : Bool
  deriving DecidableEq, Repr

/-! ### The metering input (chapter 2) -/

/-- Metering status (2.1). -/
inductive MeteringStatus where
  | current | stale
  deriving DecidableEq, Repr

/-- A phase's holdover state (R31). -/
inductive Holdover where
  | inUse | held | unusable
  deriving DecidableEq, Repr

/-- The metering input's state for one phase (2.1). -/
structure PhaseState where
  holdover : Holdover
  power : Int
  voltage : Nat
  current : Nat
  step : Nat
  lowCount : Nat
  highCount : Nat
  liveLow : Bool
  liveHigh : Bool
  deriving DecidableEq, Repr

/-- The metering input (2.1). A timer is stopped (none) or running with the value it was started with (log entry 5).
`rx` is the record under assembly: none while waiting for a start byte, else the bytes after it (R25). -/
structure Metering where
  status : MeteringStatus
  lost : Bool
  staleTimer : Option Nat
  lastSequence : Byte
  gapCount : Nat
  phases : PerPhase PhaseState
  unbalance : Nat
  rx : Option (List Byte)
  deriving DecidableEq, Repr

/-! ### The balance engine (chapters 3 and 4) -/

/-- Engine state (4.1). -/
inductive EngineState where
  | off | starved | held | paused | watch | waiting | quiet
  deriving DecidableEq, Repr

/-- The deferred pass, when there is one (4.1). -/
inductive PassCause where
  | cadence
  | triggered (entry : TriggerId)
  deriving DecidableEq, Repr

/-- A trigger entry's run-time fields (R81). -/
structure TriggerRun where
  matchCount : Nat
  latched : Bool
  deriving DecidableEq, Repr

/-- How the search of a pass ended (R62). -/
inductive PassEnd where
  | depthReached | noAdmissible
  deriving DecidableEq, Repr

/-- The pass report (R67). -/
structure PassReport where
  time : Word
  trigger : Option TriggerId
  startSpread : Nat
  startIndex : Nat
  eligible : Nat
  chosen : Nat
  placed : Nat
  ending : PassEnd
  finalSpread : Nat
  finalIndex : Nat
  deriving DecidableEq, Repr

/-- The balance engine (4.1). -/
structure Engine where
  state : EngineState
  paused : Bool
  active : Bool
  windowCount : Nat
  quietCount : Nat
  pendingTrigger : Option TriggerId
  deferred : Option PassCause
  triggers : Vector TriggerRun 8
  report : Option PassReport
  deriving DecidableEq, Repr

/-! ### The move queue (chapter 5) and the transfer controller (chapter 7) -/

/-- Who placed an order, or LOCAL for an observed change (R90, R182). -/
inductive Source where
  | op | sp | balancer | localSwitch
  deriving DecidableEq, Repr

/-- An order (R90). -/
structure Order where
  conn : ConnId
  target : Phase
  source : Source
  priority : Nat
  admissionTime : Word
  admissionNumber : Nat
  life : Nat
  trigger : Option TriggerId
  gain : Option Nat
  deriving DecidableEq, Repr

/-- The move queue: orders in admission order, the oldest first, and the admission count (R89, R90). -/
structure Queue where
  orders : List Order
  admissions : Nat
  deriving DecidableEq, Repr

/-- A context's state (R130). -/
inductive CtxState where
  | arming | armed | fired
  deriving DecidableEq, Repr

/-- What waits in a context's request slot (R114). -/
inductive CtxRequest where
  | arm | fire | confirm
  deriving DecidableEq, Repr

/-- A transfer context in flight (R130), with its request slot (R114) and its confirm timer (R138). `armHoldSent` is
absent until an ARM has been granted for the context (log entry 20). -/
structure Context where
  order : Order
  sourcePhase : Option Phase
  dispatchNumber : Nat
  state : CtxState
  retries : Nat
  reArmUsed : Bool
  fireRetried : Bool
  armHoldSent : Option Nat
  armDeadline : Option Nat
  confirmDeadline : Option Nat
  confirmTimer : Option Nat
  counterAtDispatch : Option Byte
  slot : Option CtxRequest
  deriving DecidableEq, Repr

/-- The transfer controller (R130, R131, R153). -/
structure Transfers where
  first : Option Context
  second : Option Context
  fireSlot : Option CtxId
  nextDispatch : Nat
  deriving DecidableEq, Repr

/-! ### The selector bus controller (chapter 6) -/

/-- A request as sent on the bus (R113, R132). -/
inductive BusRequest where
  | poll
  | arm (target : Phase) (deadInterval armHold : Nat)
  | fire
  | disarm
  deriving DecidableEq, Repr

/-- Who raised a request, and so who is handed its outcome (R114). A context is known by its transfer's dispatch
number, so that a request outliving its transfer is handed to nobody (R130). -/
inductive Raiser where
  | context (dispatchNumber : Nat)
  | disarmSlot
  | routine
  | survey
  deriving DecidableEq, Repr

/-- The outstanding request (R113). -/
structure Outstanding where
  conn : ConnId
  tag : Byte
  request : BusRequest
  raiser : Raiser
  deriving DecidableEq, Repr

/-- A waiting DISARM: a release disarm with the dispatch number of the transfer it ended, or a stray one (R114). -/
inductive DisarmMark where
  | release (dispatchNumber : Nat)
  | stray
  deriving DecidableEq, Repr

/-- The selector bus controller (R113 to R118, R129). -/
structure Bus where
  outstanding : Option Outstanding
  tag : Byte
  routineSlot : Bool
  surveySlot : Bool
  disarmSlots : Vector (Option DisarmMark) 64
  position : Option ConnId
  routineTimer : Option Nat
  surveyTimer : Nat
  surveyRunning : Bool
  surveyList : List ConnId
  deriving DecidableEq, Repr

/-! ### Master ports (chapter 9) and the move log (chapter 10) -/

/-- One master port. `rx` is the frame under assembly: none while waiting for a start byte, else the bytes after it
(R167); `buffered` and `response` hold payloads (R168); `baudNext` is a reloaded rate waiting for the response in
transmission to leave (R174). -/
structure PortState where
  rx : Option (List Byte)
  buffered : Option (List Byte)
  response : Option (List Byte)
  rejected : Nat
  overrun : Nat
  baud : Nat
  baudNext : Option Nat
  deriving DecidableEq, Repr

/-- The outcome of a log record (R182). -/
inductive LogOutcome where
  | completed | fellBack | faultOpen | unconfirmed | noReply | refused | withdrawn | expired | cancelled | replaced
  | evicted | superseded | notPresent | observed
  deriving DecidableEq, Repr

/-- A move log record (R182). -/
structure LogRecord where
  sequence : Word
  time : Word
  conn : ConnId
  fromPhase : Option Phase
  toPhase : Phase
  source : Source
  trigger : Option TriggerId
  gain : Option Nat
  outcome : LogOutcome
  deriving DecidableEq, Repr

/-- The move log, oldest record first (R183). -/
structure MoveLog where
  records : List LogRecord
  nextSequence : Word
  deriving DecidableEq, Repr

/-! ### The whole state -/

/-- The UJ364, with the queue of the commands waiting to be taken. `image` is none when the stored image's CRC does
not match (log entry 3); `saving` is the copy being written, so the saving flag is its presence (R189). -/
structure State where
  pending : List Instr
  powered : Bool
  settings : Settings
  image : Option Settings
  saving : Option Settings
  restartDeferred : Bool
  partTime : Word
  conns : Vector Connection 64
  metering : Metering
  engine : Engine
  queue : Queue
  bus : Bus
  transfers : Transfers
  hold : HoldSet
  alarms : PerPort AlarmSet
  attention : PerPort Bool
  log : MoveLog
  ports : PerPort PortState
  deriving DecidableEq, Repr

/-! ### Reset -/

def AlarmSet.empty : AlarmSet := ⟨false, false, false, false, false, false, false, false⟩

def AlarmSet.all : AlarmSet := ⟨true, true, true, true, true, true, true, true⟩

def PinSet.empty : PinSet := ⟨false, false, false, false⟩

def HoldSet.empty : HoldSet := ⟨false, false⟩

/-- The defaults of the working settings (R187, R188, R22, R87). -/
def Settings.defaults : Settings where
  numeric := ⟨#[0, 10, 2070, 2530, 20, 3, 9200, 50, 20, 2, 6, 150, 80, 2, 600, 120, 2, 600, 4, 100, 60, 30, 3, 40, 3,
    2000, 19200, 19200, 19200], rfl⟩
  conns := Vector.replicate 64 ⟨.unused, ⟨true, true, true⟩, 0⟩
  triggers := Vector.replicate 8 ⟨false, ⟨true, true, true⟩, .unbalance, .above, 9999, 1⟩
  masks := ⟨AlarmSet.all, AlarmSet.all, AlarmSet.all⟩

/-- An UNUSED connection's run-time fields after power-on (R22, R129, R150). -/
def Connection.initial : Connection where
  presence := .absent
  arrivalHold := 0
  motion := .idle
  recordedPhase := none
  load := 0
  settle := 0
  transfersToday := 0
  pins := PinSet.empty
  lastSerial := 0
  faultCause := none
  lapseCount := 0
  beforeLapse := none
  identitySerial := 0
  lastReport := none
  directSample := false

/-- A phase of the metering input after reset (R41). -/
def PhaseState.initial : PhaseState where
  holdover := .unusable
  power := 0
  voltage := 0
  current := 0
  step := 0
  lowCount := 0
  highCount := 0
  liveLow := false
  liveHigh := false

/-- The machine right after power-on of a part whose stored image does not match its CRC (R190, log entry 2): the
settings are the defaults, SETTINGS_DEFAULTED is in every alarm set, every attention line is asserted (R166). -/
def State.reset : State where
  pending := []
  powered := true
  settings := Settings.defaults
  image := none
  saving := none
  restartDeferred := false
  partTime := 0
  conns := Vector.replicate 64 Connection.initial
  metering :=
    { status := .stale, lost := false, staleTimer := some 30, lastSequence := 0, gapCount := 0,
      phases := ⟨PhaseState.initial, PhaseState.initial, PhaseState.initial⟩, unbalance := 0, rx := none }
  engine :=
    { state := .off, paused := false, active := false, windowCount := 0, quietCount := 0, pendingTrigger := none,
      deferred := none, triggers := Vector.replicate 8 ⟨0, false⟩, report := none }
  queue := ⟨[], 0⟩
  bus :=
    { outstanding := none, tag := 0, routineSlot := false, surveySlot := false,
      disarmSlots := Vector.replicate 64 none, position := none, routineTimer := some 100, surveyTimer := 60,
      surveyRunning := false, surveyList := [] }
  transfers := ⟨none, none, none, 1⟩
  hold := HoldSet.empty
  alarms :=
    let defaulted : AlarmSet := { AlarmSet.empty with settingsDefaulted := true }
    ⟨defaulted, defaulted, defaulted⟩
  attention := ⟨true, true, true⟩
  log := ⟨[], 1⟩
  ports :=
    let port : PortState := ⟨none, none, none, 0, 0, 19200, none⟩
    ⟨port, port, port⟩

end Sys2Proof.Machine
end

