-- ==== Sys2Proof/Machine/Operands.lean ====
section
/-!
DEFINITION. Operand forms: clamps and counters (section 4.2 of the scope file), the byte conventions and codes of the
wire (R176), the CRC and the frames (R167, R177 to R179), the command set with its codes, permissions and parameter
lengths (R170, R171, R180), and the ranges of the numeric settings (R188).
-/

namespace Sys2Proof

/-! ### Values by phase and by port -/

def PerPhase.get {α : Type} (v : PerPhase α) : Phase → α
  | .p1 => v.p1 | .p2 => v.p2 | .p3 => v.p3

def PerPhase.set {α : Type} (v : PerPhase α) (p : Phase) (x : α) : PerPhase α :=
  match p with
  | .p1 => { v with p1 := x } | .p2 => { v with p2 := x } | .p3 => { v with p3 := x }

def PerPhase.map {α β : Type} (f : α → β) (v : PerPhase α) : PerPhase β := ⟨f v.p1, f v.p2, f v.p3⟩

def PerPhase.zipWith {α β γ : Type} (f : α → β → γ) (v : PerPhase α) (w : PerPhase β) : PerPhase γ :=
  ⟨f v.p1 w.p1, f v.p2 w.p2, f v.p3 w.p3⟩

/-- Whether some phase satisfies a test. -/
def PerPhase.any {α : Type} (v : PerPhase α) (test : α → Bool) : Bool := test v.p1 || test v.p2 || test v.p3

end Sys2Proof

namespace Sys2Proof.Machine

def PerPort.get {α : Type} (v : PerPort α) : Port → α
  | .op => v.op | .sp => v.sp | .pp => v.pp

def PerPort.set {α : Type} (v : PerPort α) (p : Port) (x : α) : PerPort α :=
  match p with
  | .op => { v with op := x } | .sp => { v with sp := x } | .pp => { v with pp := x }

def PerPort.map {α β : Type} (f : α → β) (v : PerPort α) : PerPort β := ⟨f v.op, f v.sp, f v.pp⟩

/-! ### Clamps and counters (section 4.2) -/

/-- A value clamped to a range: the nearer end when it lies outside. -/
def clampInt (lo hi x : Int) : Int := max lo (min hi x)

/-- A counter that saturates at its largest value. -/
def saturatingInc (largest n : Nat) : Nat := min (n + 1) largest

/-- The phases, in ascending order. -/
def allPhases : List Phase := [.p1, .p2, .p3]

/-- The connection numbers, in ascending order. -/
def allConns : List ConnId := List.finRange 64

/-- The trigger entries' numbers, in ascending order. -/
def allTriggers : List TriggerId := List.finRange 8

/-! ### Bytes and fields (R176) -/

/-- A natural number as one byte. -/
def byteOf (n : Nat) : Byte := BitVec.ofNat 8 n

/-- A two-byte field, high byte first. -/
def halfBytes (h : Half) : List Byte := [h.extractLsb' 8 8, h.extractLsb' 0 8]

/-- A four-byte field, high byte first. -/
def wordBytes (w : Word) : List Byte :=
  [w.extractLsb' 24 8, w.extractLsb' 16 8, w.extractLsb' 8 8, w.extractLsb' 0 8]

def natHalf (n : Nat) : List Byte := halfBytes (BitVec.ofNat 16 n)

def intHalf (n : Int) : List Byte := halfBytes (BitVec.ofInt 16 n)

def natWord (n : Nat) : List Byte := wordBytes (BitVec.ofNat 32 n)

def intWord (n : Int) : List Byte := wordBytes (BitVec.ofInt 32 n)

/-- A received two-byte field. -/
def readHalf (high low : Byte) : Half := high ++ low

/-- A received four-byte field. -/
def readWord (a b c d : Byte) : Word := a ++ b ++ c ++ d

/-- A flag: 0 for clear, 1 for set. -/
def flagByte (b : Bool) : Byte := if b then 1 else 0

/-- A received flag: any byte but 0 is set. -/
def readFlag (b : Byte) : Bool := b != 0

/-- An absent one-byte optional field. -/
def absentByte : Byte := 0xFF

/-- A phase, 0 for none or UNKNOWN. -/
def phaseByte : Option Phase → Byte
  | none => 0 | some .p1 => 1 | some .p2 => 2 | some .p3 => 3

/-- A received phase: 1, 2 or 3. -/
def readPhase (b : Byte) : Option Phase :=
  if b = 1 then some .p1 else if b = 2 then some .p2 else if b = 3 then some .p3 else none

def phaseSetByte (v : PhaseSet) : Byte :=
  (if v.p1 then 1 else 0) + (if v.p2 then 2 else 0) + (if v.p3 then 4 else 0)

/-- A received set of phases; none when a bit above bit 2 is set (R176). -/
def readPhaseSet (b : Byte) : Option PhaseSet :=
  if b.toNat < 8 then some ⟨b.getLsbD 0, b.getLsbD 1, b.getLsbD 2⟩ else none

def PinSet.byte (v : PinSet) : Byte :=
  (if v.op then 1 else 0) + (if v.sp then 2 else 0) + (if v.pp then 4 else 0) + (if v.localSwitch then 8 else 0)

def HoldSet.byte (v : HoldSet) : Byte := (if v.op then 1 else 0) + (if v.pp then 4 else 0)

def AlarmSet.byte (v : AlarmSet) : Byte :=
  (if v.unitLost then 1 else 0) + (if v.unitMismatch then 2 else 0) + (if v.transferFault then 4 else 0)
    + (if v.meteringLost then 8 else 0) + (if v.phaseLow then 16 else 0) + (if v.phaseHigh then 32 else 0)
    + (if v.holdChanged then 64 else 0) + (if v.settingsDefaulted then 128 else 0)

/-- A received set of alarm conditions: every bit names one of the eight, so no byte is refused. -/
def AlarmSet.ofByte (b : Byte) : AlarmSet :=
  ⟨b.getLsbD 0, b.getLsbD 1, b.getLsbD 2, b.getLsbD 3, b.getLsbD 4, b.getLsbD 5, b.getLsbD 6, b.getLsbD 7⟩

def Kind.byte : Kind → Byte
  | .unused => 0 | .movable => 1 | .fixed => 2 | .threePhase => 3

def Kind.ofByte (b : Byte) : Option Kind :=
  if b = 0 then some .unused else if b = 1 then some .movable else if b = 2 then some .fixed
  else if b = 3 then some .threePhase else none

def Presence.byte : Presence → Byte
  | .absent => 0 | .arriving => 1 | .present => 2 | .lapsing => 3 | .mismatch => 4

def Motion.byte : Motion → Byte
  | .idle => 0 | .queued => 1 | .arming => 2 | .armed => 3 | .fired => 4 | .faulted => 5

def FaultCause.byte : FaultCause → Byte
  | .openContact => 0 | .unconfirmed => 1 | .unitFault => 2

def Source.byte : Source → Byte
  | .op => 0 | .sp => 1 | .balancer => 2 | .localSwitch => 3

def LogOutcome.byte : LogOutcome → Byte
  | .completed => 0 | .fellBack => 1 | .faultOpen => 2 | .unconfirmed => 3 | .noReply => 4 | .refused => 5
  | .withdrawn => 6 | .expired => 7 | .cancelled => 8 | .replaced => 9 | .evicted => 10 | .superseded => 11
  | .notPresent => 12 | .observed => 13

def CtxState.byte : CtxState → Byte
  | .arming => 0 | .armed => 1 | .fired => 2

def EngineState.byte : EngineState → Byte
  | .off => 0 | .starved => 1 | .held => 2 | .paused => 3 | .watch => 4 | .waiting => 5 | .quiet => 6

def PassEnd.byte : PassEnd → Byte
  | .depthReached => 0 | .noAdmissible => 1

def MeteringStatus.byte : MeteringStatus → Byte
  | .current => 0 | .stale => 1

def Holdover.byte : Holdover → Byte
  | .inUse => 0 | .held => 1 | .unusable => 2

def Quantity.byte : Quantity → Byte
  | .phasePower => 0 | .phaseCurrent => 1 | .phaseVoltage => 2 | .powerStep => 3 | .unbalance => 4

def Quantity.ofByte (b : Byte) : Option Quantity :=
  if b = 0 then some .phasePower else if b = 1 then some .phaseCurrent else if b = 2 then some .phaseVoltage
  else if b = 3 then some .powerStep else if b = 4 then some .unbalance else none

def Comparison.byte : Comparison → Byte
  | .above => 0 | .below => 1

def Comparison.ofByte (b : Byte) : Option Comparison :=
  if b = 0 then some .above else if b = 1 then some .below else none

def unitStateByte : UnitState → Byte
  | .steady => 0 | .armed => 1 | .transferring => 2 | .fault => 3

def readUnitState (b : Byte) : Option UnitState :=
  if b = 0 then some .steady else if b = 1 then some .armed else if b = 2 then some .transferring
  else if b = 3 then some .fault else none

/-- The name of a port in IDENTIFY's answer (R173). -/
def portName : Port → Byte
  | .op => 1 | .sp => 2 | .pp => 3

/-- An optional trigger number. -/
def triggerByte : Option TriggerId → Byte
  | none => absentByte
  | some t => byteOf t.val

/-- An optional predicted gain: absent is sent as 0. -/
def gainBytes (g : Option Nat) : List Byte := natHalf (g.getD 0)

/-- A received connection number, when it is in 0..63 (R1). -/
def readConn (b : Byte) : Option ConnId :=
  if h : b.toNat < 64 then some ⟨b.toNat, h⟩ else none

/-- The bus address of a connection's unit (R1). -/
def busAddress (c : ConnId) : Byte := byteOf (c.val + 1)

/-! ### The CRC and the frames (R167, R177 to R179) -/

/-- One bit of the CRC-16 with polynomial 0x1021, not reflected. -/
def crcShift (crc : Half) : Half :=
  if crc.getLsbD 15 then (crc <<< 1) ^^^ 0x1021 else crc <<< 1

/-- One byte of the CRC-16. -/
def crcByte (crc : Half) (b : Byte) : Half :=
  crcShift (crcShift (crcShift (crcShift (crcShift (crcShift (crcShift (crcShift
    (crc ^^^ ((b.setWidth 16) <<< 8)))))))))

/-- The CRC-16 of R167: initial value 0xFFFF, final XOR 0x0000. -/
def crc16 (bytes : List Byte) : Half := bytes.foldl crcByte 0xFFFF

/-- A master-port frame around a payload (R177). -/
def masterFrame (payload : List Byte) : List Byte :=
  let body := byteOf payload.length :: payload
  0x5A :: (body ++ halfBytes (crc16 body))

/-- What one received byte does to a port's receive assembly (R167). -/
inductive RxResult where
  | none
  | rejected
  | good (payload : List Byte)
  deriving DecidableEq, Repr

/-- Assembling a master-port frame, byte by byte (R167). The assembly is none while waiting for a start byte, else the
bytes received since it; the second component is what the byte completed. -/
def rxByte (rx : Option (List Byte)) (b : Byte) : Option (List Byte) × RxResult :=
  match rx with
  | none => (if b = 0x5A then some [] else none, .none)
  | some got =>
    match got with
    | [] => if b.toNat = 0 ∨ 120 < b.toNat then (none, .rejected) else (some [b], .none)
    | len :: rest =>
      if got.length + 1 < len.toNat + 3 then (some (got ++ [b]), .none)
      else
        let payload := rest.take len.toNat
        if crc16 (len :: payload) = readHalf (got.getLast?.getD 0) b then (none, .good payload) else (none, .rejected)

/-- The fields of a metering record from the 20 bytes after its start byte (R179). -/
def parseRecord (bs : List Byte) : WindowRecord :=
  let byteAt (i : Nat) : Byte := bs.getD i 0
  let sample (i : Nat) (valid : Bool) : PhaseSample :=
    ⟨readHalf (byteAt i) (byteAt (i + 1)), readHalf (byteAt (i + 2)) (byteAt (i + 3)),
      readHalf (byteAt (i + 4)) (byteAt (i + 5)), valid⟩
  let flags := byteAt 19
  ⟨byteAt 0, sample 1 (flags.getLsbD 0), sample 7 (flags.getLsbD 1), sample 13 (flags.getLsbD 2)⟩

/-- The bytes of a metering record (R179). -/
def recordFrame (r : WindowRecord) : List Byte :=
  let sample (p : PhaseSample) : List Byte := halfBytes p.power ++ halfBytes p.voltage ++ halfBytes p.current
  let body := r.sequence :: (sample r.phases.p1 ++ sample r.phases.p2 ++ sample r.phases.p3
    ++ [phaseSetByte (r.phases.map (·.valid))])
  0x3C :: (body ++ halfBytes (crc16 body))

/-- Assembling a metering record, byte by byte (R25). The second component is the record a byte completed, when its
CRC matches. -/
def meteringRxByte (rx : Option (List Byte)) (b : Byte) : Option (List Byte) × Option WindowRecord :=
  match rx with
  | none => (if b = 0x3C then some [] else none, none)
  | some got =>
    if got.length + 1 < Config.recordBytes then (some (got ++ [b]), none)
    else
      let body := got.take 20
      (none, if crc16 body = readHalf (got.getD 20 0) b then some (parseRecord body) else none)

/-- What a unit answers (R113, R178). -/
inductive Reply where
  | poll (report : PollReport)
  | armed
  | armRefused (reason : ArmRefusal)
  | firing
  | notArmed
  | idle
  deriving DecidableEq, Repr

/-- Whether a reply's kind answers a request (R113). -/
def Reply.answers : Reply → BusRequest → Bool
  | .poll _, .poll => true
  | .armed, .arm _ _ _ => true
  | .armRefused _, .arm _ _ _ => true
  | .firing, .fire => true
  | .notArmed, .fire => true
  | .idle, .disarm => true
  | _, _ => false

/-- A received phase that may be 0 for none or absent (R178). -/
def readPhaseOrNone (b : Byte) : Option (Option Phase) :=
  if b = 0 then some none else (readPhase b).map some

/-- The poll report of a poll reply frame (R178); none when a field holds a code outside its table (log entry 18). R178
names bits 0 to 2 of the flags byte; that bits 3 to 7 are ignored, whatever they hold, is the model's choice (log entry 29). -/
def parseReport : List Byte → Option PollReport
  | [closed, unit, target, high, low, flags, counter] =>
    match readPhaseOrNone closed, readUnitState unit, readPhaseOrNone target with
    | some c, some u, some t =>
      some ⟨c, u, t, readHalf high low, flags.getLsbD 0, flags.getLsbD 1, flags.getLsbD 2, counter⟩
    | _, _, _ => none
  | _ => none

/-- The poll report's seven bytes (R178). Bits 3 to 7 of the flags byte are sent as 0 (log entry 29). -/
def reportBytes (r : PollReport) : List Byte :=
  [phaseByte r.closedPhase, unitStateByte r.unitState, phaseByte r.armedTarget] ++ halfBytes r.power
    ++ [flagByte r.localEngaged + (if r.contactFault then 2 else 0) + (if r.overtemperature then 4 else 0), r.counter]

/-- The reply that a kind byte and the bytes after the serial give (R178). -/
def parseReplyKind (kind : Byte) (rest : List Byte) : Option Reply :=
  if kind = 0x81 then (parseReport rest).map .poll
  else if rest ≠ [] then none
  else if kind = 0x82 then some .armed
  else if kind = 0x83 then some (.armRefused .localSwitch)
  else if kind = 0x84 then some (.armRefused .busy)
  else if kind = 0x85 then some (.armRefused .fault)
  else if kind = 0x86 then some .firing
  else if kind = 0x87 then some .notArmed
  else if kind = 0x88 then some .idle
  else none

/-- A selector bus frame as a reply: its address, tag, serial and content; none when its start byte, its length, its
CRC or its kind is not that of a reply (R113, R178). -/
def parseBusFrame : List Byte → Option (Byte × Byte × Word × Reply)
  | start :: rest =>
    let body := rest.take (rest.length - 2)
    match rest.drop (rest.length - 2), body with
    | [high, low], address :: tag :: kind :: a :: b :: c :: d :: more =>
      if start = 0xC3 ∧ crc16 body = readHalf high low then
        (parseReplyKind kind more).map fun r => (address, tag, readWord a b c d, r)
      else none
    | _, _ => none
  | [] => none

/-- A request's frame on the selector bus (R178). -/
def Outstanding.frame (o : Outstanding) : List Byte :=
  let content : List Byte :=
    match o.request with
    | .poll => [0x01]
    | .arm target dead armHold => [0x02, phaseByte (some target), byteOf (dead / 10), byteOf armHold]
    | .fire => [0x03]
    | .disarm => [0x04]
  let body := busAddress o.conn :: o.tag :: content
  0xC3 :: (body ++ halfBytes (crc16 body))

/-! ### The command set (R170, R171, R180) -/

/-- The status codes (R170). -/
inductive Status where
  | ok | okClamped | accepted | unknownCommand | badLength | notPermitted | badValue | badConnection | notMovable
  | samePhase | notPresent | faulted | inTransfer | pinned | busy | queueFull | notReady
  deriving DecidableEq, Repr

def Status.byte : Status → Byte
  | .ok => 0x00 | .okClamped => 0x01 | .accepted => 0x02 | .unknownCommand => 0x10 | .badLength => 0x11
  | .notPermitted => 0x12 | .badValue => 0x13 | .badConnection => 0x14 | .notMovable => 0x20 | .samePhase => 0x21
  | .notPresent => 0x22 | .faulted => 0x23 | .inTransfer => 0x24 | .pinned => 0x25 | .busy => 0x26
  | .queueFull => 0x27 | .notReady => 0x28

/-- The commands of R171. -/
inductive Command where
  | identify | readStatus | readPhases | readConnection | readTable | readQueue | readLog | readSetting | move | cancel
  | reprioritize | pin | unpin | unpinAll | hold | release | pauseBalancer | resumeBalancer | clearFault | survey
  | clearAlarms | setAlarmMask | writeSetting | writeConnection | writeTrigger | saveSettings | restart | setTime
  deriving DecidableEq, Repr

/-- Every command with its code (R171). -/
def commandCodes : List (Command × Byte) :=
  [(.identify, 0x01), (.readStatus, 0x02), (.readPhases, 0x03), (.readConnection, 0x04), (.readTable, 0x05),
   (.readQueue, 0x06), (.readLog, 0x07), (.readSetting, 0x08), (.move, 0x10), (.cancel, 0x11),
   (.reprioritize, 0x12), (.pin, 0x18), (.unpin, 0x19), (.unpinAll, 0x1A), (.hold, 0x20), (.release, 0x21),
   (.pauseBalancer, 0x28), (.resumeBalancer, 0x29), (.clearFault, 0x2A), (.survey, 0x2B), (.clearAlarms, 0x30),
   (.setAlarmMask, 0x31), (.writeSetting, 0x38), (.writeConnection, 0x39), (.writeTrigger, 0x3A),
   (.saveSettings, 0x3B), (.restart, 0x3C), (.setTime, 0x40)]

/-- A command's code (R171). -/
def Command.code (c : Command) : Byte := ((commandCodes.find? fun e => e.1 == c).map (·.2)).getD 0

/-- The command a code names, if any (check 1 of R169). -/
def Command.ofCode (code : Byte) : Option Command := (commandCodes.find? fun e => e.2 == code).map (·.1)

/-- The ports a command is permitted from (R171). -/
def Command.permitted : Command → Port → Bool
  | .identify, _ => true | .readStatus, _ => true | .readPhases, _ => true | .readConnection, _ => true
  | .readTable, _ => true | .readQueue, _ => true | .readLog, _ => true | .readSetting, _ => true
  | .pin, _ => true | .unpin, _ => true | .unpinAll, _ => true
  | .clearAlarms, _ => true | .setAlarmMask, _ => true
  | .hold, p => p != .sp | .release, p => p != .sp
  | .setTime, p => p == .op
  | .move, p => p != .pp | .cancel, p => p != .pp | .reprioritize, p => p != .pp
  | .pauseBalancer, p => p != .pp | .resumeBalancer, p => p != .pp | .clearFault, p => p != .pp
  | .survey, p => p != .pp | .writeSetting, p => p != .pp | .writeConnection, p => p != .pp
  | .writeTrigger, p => p != .pp | .saveSettings, p => p != .pp | .restart, p => p != .pp

/-- The number of parameter bytes a command carries (R180). -/
def Command.paramBytes : Command → Nat
  | .identify => 0 | .readStatus => 0 | .readPhases => 0 | .unpinAll => 0 | .hold => 0 | .release => 0
  | .pauseBalancer => 0 | .resumeBalancer => 0 | .survey => 0 | .saveSettings => 0 | .restart => 0
  | .readConnection => 1 | .cancel => 1 | .pin => 1 | .unpin => 1 | .clearFault => 1 | .readTable => 1
  | .readQueue => 1 | .readSetting => 1 | .clearAlarms => 1 | .setAlarmMask => 1
  | .reprioritize => 2 | .setTime => 4 | .readLog => 5 | .move => 5 | .writeSetting => 5
  | .writeConnection => 7 | .writeTrigger => 10

/-! ### The numeric settings (R188) -/

/-- What values a numeric setting takes: a range, clamped, or a list, checked (R172). -/
inductive SettingRange where
  | range (low high : Nat)
  | list (values : List Nat)
  deriving DecidableEq, Repr

/-- The ranges and lists of R188. -/
def SettingId.values : SettingId → SettingRange
  | .balancerEnable => .list [0, 1]
  | .windowLength => .range 1 60
  | .vLow => .range 1800 2200
  | .vHigh => .range 2400 2800
  | .voltageHysteresis => .range 0 100
  | .deglitchWindows => .range 1 8
  | .phaseRating => .range 1000 30000
  | .gainFloor => .range 1 5000
  | .minimumLoad => .range 0 2000
  | .planDepth => .range 1 4
  | .balanceInterval => .range 1 60
  | .uStart => .range 1 9999
  | .uStop => .range 0 9998
  | .quietWindows => .range 1 10
  | .masterLifetime => .range 10 3600
  | .balancerLifetime => .range 30 600
  | .smoothingShift => .range 0 4
  | .settleInterval => .range 60 7200
  | .dailyBudget => .range 1 255
  | .routineSpacing => .range 20 1000
  | .surveyInterval => .range 10 600
  | .arrivalHold => .range 5 300
  | .lapseLimit => .range 2 8
  | .deadInterval => .range 20 200
  | .armHold => .range 1 10
  | .confirmTimeout => .range 500 5000
  | .baudOp => .list [9600, 19200, 38400, 57600, 115200]
  | .baudSp => .list [9600, 19200, 38400, 57600, 115200]
  | .baudPp => .list [9600, 19200, 38400, 57600, 115200]

/-- Every numeric setting, in the order of its number. -/
def allSettings : List SettingId :=
  [.balancerEnable, .windowLength, .vLow, .vHigh, .voltageHysteresis, .deglitchWindows, .phaseRating, .gainFloor,
   .minimumLoad, .planDepth, .balanceInterval, .uStart, .uStop, .quietWindows, .masterLifetime, .balancerLifetime,
   .smoothingShift, .settleInterval, .dailyBudget, .routineSpacing, .surveyInterval, .arrivalHold, .lapseLimit,
   .deadInterval, .armHold, .confirmTimeout, .baudOp, .baudSp, .baudPp]

/-- The setting a number names, if any (R188). -/
def SettingId.ofNumber (n : Nat) : Option SettingId := allSettings[n]?

/-- Whether a stored value is one the setting takes. -/
def SettingRange.admits (r : SettingRange) (n : Nat) : Bool :=
  match r with
  | .range low high => decide (low ≤ n ∧ n ≤ high)
  | .list values => values.contains n

/-- The baud rate setting of a port (R174). -/
def baudSetting : Port → SettingId
  | .op => .baudOp | .sp => .baudSp | .pp => .baudPp

/-- The threshold range of a trigger quantity (R81). -/
def Quantity.thresholdLow : Quantity → Int
  | .phasePower => -30000 | .phaseCurrent => 0 | .phaseVoltage => 0 | .powerStep => 0 | .unbalance => 0

def Quantity.thresholdHigh : Quantity → Int
  | .phasePower => 30000 | .phaseCurrent => 10000 | .phaseVoltage => 3000 | .powerStep => 60000 | .unbalance => 9999

end Sys2Proof.Machine
end

