-- ==== Sys2Proof/Machine/Ops.lean ====
section
/-!
DEFINITION. The named operations over the state that every block uses: one update per field, the accessors of the
connection table, the settings, the contexts and the pin and hold sets, and the three shared records of an event
(a log record, a raised alarm condition, a change of motion).
-/

namespace Sys2Proof.Machine

/-! ### One update per field -/

def State.withPending (s : State) (x : List Instr) : State := { s with pending := x }

def State.withPowered (s : State) (x : Bool) : State := { s with powered := x }

def State.withSettings (s : State) (x : Settings) : State := { s with settings := x }

def State.withImage (s : State) (x : Option Settings) : State := { s with image := x }

def State.withSaving (s : State) (x : Option Settings) : State := { s with saving := x }

def State.withRestartDeferred (s : State) (x : Bool) : State := { s with restartDeferred := x }

def State.withPartTime (s : State) (x : Word) : State := { s with partTime := x }

def State.withConns (s : State) (x : Vector Connection 64) : State := { s with conns := x }

def State.withMetering (s : State) (x : Metering) : State := { s with metering := x }

def State.withEngine (s : State) (x : Engine) : State := { s with engine := x }

def State.withQueue (s : State) (x : Queue) : State := { s with queue := x }

def State.withBus (s : State) (x : Bus) : State := { s with bus := x }

def State.withTransfers (s : State) (x : Transfers) : State := { s with transfers := x }

def State.withHold (s : State) (x : HoldSet) : State := { s with hold := x }

def State.withAlarms (s : State) (x : PerPort AlarmSet) : State := { s with alarms := x }

def State.withAttention (s : State) (x : PerPort Bool) : State := { s with attention := x }

def State.withLog (s : State) (x : MoveLog) : State := { s with log := x }

def State.withPorts (s : State) (x : PerPort PortState) : State := { s with ports := x }

/-! ### Settings -/

/-- The working value of a numeric setting (R188). -/
def State.setting (s : State) (id : SettingId) : Nat := s.settings.numeric.get id.number

/-- A connection's working configuration (R24). -/
def State.config (s : State) (c : ConnId) : ConnConfig := s.settings.conns.get c

/-- A record whose kind is not UNUSED is used (R1). -/
def State.used (s : State) (c : ConnId) : Bool := (s.config c).kind != .unused

/-- The working settings with one numeric value replaced. -/
def Settings.setNumeric (st : Settings) (id : SettingId) (n : Nat) : Settings :=
  { st with numeric := st.numeric.set id.number n }

/-! ### The connection table -/

def State.conn (s : State) (c : ConnId) : Connection := s.conns.get c

def State.setConn (s : State) (c : ConnId) (x : Connection) : State := s.withConns (s.conns.set c x)

def State.modConn (s : State) (c : ConnId) (f : Connection → Connection) : State := s.setConn c (f (s.conn c))

/-- Every connection record changed at once. -/
def State.mapConns (s : State) (f : ConnId → Connection → Connection) : State :=
  s.withConns (Vector.ofFn fun c => f c (s.conns.get c))

def State.setMotion (s : State) (c : ConnId) (m : Motion) : State := s.modConn c fun x => { x with motion := m }

/-- A transfer for the connection is in flight (R14). -/
def Motion.inFlight : Motion → Bool
  | .arming => true | .armed => true | .fired => true | .idle => false | .queued => false | .faulted => false

/-- Presence ABSENT or MISMATCH, which admission and queued balancer orders treat alike (R6). -/
def Presence.lost : Presence → Bool
  | .absent => true | .mismatch => true | .arriving => false | .present => false | .lapsing => false

/-! ### Pin sets and the hold set -/

def PinSet.has (v : PinSet) : Port → Bool
  | .op => v.op | .sp => v.sp | .pp => v.pp

def PinSet.put (v : PinSet) (p : Port) (b : Bool) : PinSet :=
  match p with
  | .op => { v with op := b } | .sp => { v with sp := b } | .pp => { v with pp := b }

/-- Whether the set has no member. -/
def PinSet.isEmpty (v : PinSet) : Bool := !(v.op || v.sp || v.pp || v.localSwitch)

/-- Whether the set holds a member other than an order's source (R18); any member is foreign to a balancer order. -/
def PinSet.foreignTo (v : PinSet) (src : Source) : Bool :=
  (v.op && src != .op) || (v.sp && src != .sp) || v.pp || v.localSwitch

/-- Whether the set holds a member other than a port (check 8 of R91). -/
def PinSet.otherThan (v : PinSet) (p : Port) : Bool :=
  (v.op && p != .op) || (v.sp && p != .sp) || (v.pp && p != .pp) || v.localSwitch

def HoldSet.nonempty (v : HoldSet) : Bool := v.op || v.pp

/-- The source of an order that a port's MOVE places (R94). PP is never permitted a MOVE (R171). -/
def sourceOf : Port → Source
  | .sp => .sp
  | .op => .op
  | .pp => .op

/-! ### Transfer contexts -/

def Transfers.get (t : Transfers) : CtxId → Option Context
  | .first => t.first | .second => t.second

def Transfers.put (t : Transfers) (k : CtxId) (x : Option Context) : Transfers :=
  match k with
  | .first => { t with first := x } | .second => { t with second := x }

def State.context (s : State) (k : CtxId) : Option Context := s.transfers.get k

def State.setContext (s : State) (k : CtxId) (x : Option Context) : State :=
  s.withTransfers (s.transfers.put k x)

def State.modContext (s : State) (k : CtxId) (f : Context → Context) : State :=
  s.setContext k ((s.context k).map f)

/-- The contexts in flight, the first before the second. -/
def State.inFlight (s : State) : List (CtxId × Context) :=
  ((s.context .first).map fun x => (CtxId.first, x)).toList
    ++ ((s.context .second).map fun x => (CtxId.second, x)).toList

/-- The context of the transfer with a dispatch number, while it is in flight (R130). -/
def State.contextNumbered (s : State) (n : Nat) : Option (CtxId × Context) :=
  s.inFlight.find? fun e => e.2.dispatchNumber == n

/-- A context is released, and the fire slot with it when it held it (R131). Its waiting request leaves its slot with
it (log entry 16). -/
def State.releaseContext (s : State) (k : CtxId) : State :=
  let t := s.transfers.put k none
  s.withTransfers { t with fireSlot := if t.fireSlot = some k then none else t.fireSlot }

/-- A FIRE is outstanding on the bus for a context (R147). -/
def State.fireOutstanding (s : State) (x : Context) : Bool :=
  match s.bus.outstanding with
  | some o => o.request == .fire && o.raiser == .context x.dispatchNumber
  | none => false

/-! ### Shared records of an event -/

/-- One move log record is written: it takes the next sequence number, and the oldest of 64 gives way (R182, R183). -/
def State.writeLog (s : State) (c : ConnId) (fromPhase : Option Phase) (toPhase : Phase) (src : Source)
    (trigger : Option TriggerId) (gain : Option Nat) (outcome : LogOutcome) : State :=
  let record : LogRecord := ⟨s.log.nextSequence, s.partTime, c, fromPhase, toPhase, src, trigger, gain, outcome⟩
  let records := s.log.records ++ [record]
  s.withLog ⟨records.drop (records.length - Config.logRoom), s.log.nextSequence + 1⟩

def AlarmSet.has (v : AlarmSet) : Alarm → Bool
  | .unitLost => v.unitLost | .unitMismatch => v.unitMismatch | .transferFault => v.transferFault
  | .meteringLost => v.meteringLost | .phaseLow => v.phaseLow | .phaseHigh => v.phaseHigh
  | .holdChanged => v.holdChanged | .settingsDefaulted => v.settingsDefaulted

def AlarmSet.insert (v : AlarmSet) : Alarm → AlarmSet
  | .unitLost => { v with unitLost := true } | .unitMismatch => { v with unitMismatch := true }
  | .transferFault => { v with transferFault := true } | .meteringLost => { v with meteringLost := true }
  | .phaseLow => { v with phaseLow := true } | .phaseHigh => { v with phaseHigh := true }
  | .holdChanged => { v with holdChanged := true } | .settingsDefaulted => { v with settingsDefaulted := true }

/-- A condition is added to the alarm sets of all three ports (R162). -/
def State.raise (s : State) (a : Alarm) : State := s.withAlarms (s.alarms.map fun v => v.insert a)

/-- A condition is added to all three sets when a test holds. -/
def State.raiseIf (s : State) (b : Bool) (a : Alarm) : State := if b then s.raise a else s

/-- A connection's settle remaining is set to the settle interval (R10). -/
def State.startSettle (s : State) (c : ConnId) : State :=
  s.modConn c fun x => { x with settle := s.setting .settleInterval }

end Sys2Proof.Machine
end

