-- ==== Sys2Proof/Machine/Flags.lean ====
section
/-!
DEFINITION. Every flag the part computes from its state: the operations on alarm sets, the live level conditions and
the attention lines (chapter 8), the stopping conditions of the balance engine (R72), and the two eligibility tests
(R17, R18).
-/

namespace Sys2Proof.Machine

/-! ### Alarm sets (8.3, 8.4) -/

/-- The conditions two sets share. -/
def AlarmSet.inter (v w : AlarmSet) : AlarmSet :=
  ⟨v.unitLost && w.unitLost, v.unitMismatch && w.unitMismatch, v.transferFault && w.transferFault,
    v.meteringLost && w.meteringLost, v.phaseLow && w.phaseLow, v.phaseHigh && w.phaseHigh,
    v.holdChanged && w.holdChanged, v.settingsDefaulted && w.settingsDefaulted⟩

/-- Whether a set holds any condition. -/
def AlarmSet.nonempty (v : AlarmSet) : Bool :=
  v.unitLost || v.unitMismatch || v.transferFault || v.meteringLost || v.phaseLow || v.phaseHigh || v.holdChanged
    || v.settingsDefaulted

/-- A set less the named conditions, except those kept (R163). -/
def AlarmSet.clear (v named kept : AlarmSet) : AlarmSet :=
  ⟨v.unitLost && !(named.unitLost && !kept.unitLost),
    v.unitMismatch && !(named.unitMismatch && !kept.unitMismatch),
    v.transferFault && !(named.transferFault && !kept.transferFault),
    v.meteringLost && !(named.meteringLost && !kept.meteringLost),
    v.phaseLow && !(named.phaseLow && !kept.phaseLow),
    v.phaseHigh && !(named.phaseHigh && !kept.phaseHigh),
    v.holdChanged && !(named.holdChanged && !kept.holdChanged),
    v.settingsDefaulted && !(named.settingsDefaulted && !kept.settingsDefaulted)⟩

/-- At least one used connection is in MISMATCH (R123). -/
def State.mismatchLive (s : State) : Bool :=
  allConns.any fun c => s.used c && (s.conn c).presence == .mismatch

/-- At least one used connection is FAULTED with fault cause OPEN (R150). -/
def State.transferFaultLive (s : State) : Bool :=
  allConns.any fun c => s.used c && (s.conn c).motion == .faulted && (s.conn c).faultCause == some .openContact

/-- The level conditions whose causes are live (R37, R123, R150, R162). -/
def State.liveLevels (s : State) : AlarmSet where
  unitLost := false
  unitMismatch := s.mismatchLive
  transferFault := s.transferFaultLive
  meteringLost := s.metering.lost
  phaseLow := s.metering.phases.any (·.liveLow)
  phaseHigh := s.metering.phases.any (·.liveHigh)
  holdChanged := false
  settingsDefaulted := false

/-- What a port's attention line is to be: asserted exactly while its set and mask share a condition (R165). -/
def State.lineOf (s : State) (p : Port) : Bool :=
  ((s.alarms.get p).inter (s.settings.masks.get p)).nonempty

/-- The attention lines are set to match (R165). -/
def State.setLines (s : State) : State := s.withAttention ⟨s.lineOf .op, s.lineOf .sp, s.lineOf .pp⟩

/-! ### The engine's stopping conditions (R72) -/

/-- STARVED: the metering status is STALE, or any phase is UNUSABLE. -/
def State.starved (s : State) : Bool :=
  s.metering.status == .stale || s.metering.phases.any fun p => p.holdover == .unusable

/-- The first of OFF, STARVED, HELD and PAUSED whose condition holds. -/
def State.stopping (s : State) : Option EngineState :=
  if s.setting .balancerEnable = 0 then some .off
  else if s.starved then some .starved
  else if s.hold.nonempty then some .held
  else if s.engine.paused then some .paused
  else none

/-- WATCH, WAITING and QUIET are the running states. -/
def EngineState.running : EngineState → Bool
  | .watch => true | .waiting => true | .quiet => true | .off => false | .starved => false | .held => false
  | .paused => false

/-! ### Eligibility (R17, R18) -/

/-- Eligible for a balancer move (R17). -/
def State.eligibleForPass (s : State) (c : ConnId) : Bool :=
  let x := s.conn c
  (s.config c).kind == .movable && x.presence == .present && x.motion == .idle && x.settle == 0 && x.pins.isEmpty
    && decide (x.transfersToday < s.setting .dailyBudget) && x.recordedPhase.isSome

/-- Eligible for dispatch, but for the hold set, which the dispatch choice tests once (R18, R103). -/
def State.dispatchable (s : State) (o : Order) : Bool :=
  let x := s.conn o.conn
  x.presence == .present && x.settle == 0 && !x.pins.foreignTo o.source
    && (o.source != .balancer || decide (x.transfersToday < s.setting .dailyBudget))

end Sys2Proof.Machine
end

