-- ==== Sys2Proof/Machine/Queue.lean ====
section
/-!
DEFINITION. The move queue's shared operations (chapter 5): occupancy, admission, the removals with the effects of
R96, and the return of an order from a context; with what the balance engine is told of an order's end (R80).
-/

namespace Sys2Proof.Machine

/-! ### What the engine is told (R80) -/

/-- A balancer order is queued or in a transfer context (4.1). -/
def State.balancerOrderRemains (s : State) : Bool :=
  (s.queue.orders.any fun o => o.source == .balancer) || (s.inFlight.any fun e => e.2.order.source == .balancer)

/-- The engine enters QUIET with the quiet count set to the quiet windows setting. -/
def State.enterQuiet (s : State) : State :=
  s.withEngine { s.engine with state := .quiet, quietCount := s.setting .quietWindows }

/-- The end of an order: at the end of the last of its own orders a WAITING engine enters QUIET. -/
def State.orderEnded (s : State) (src : Source) : State :=
  if s.engine.state = .waiting ∧ src = .balancer ∧ s.balancerOrderRemains = false then s.enterQuiet else s

/-- In QUIET, a transfer end or an observed local change resets the quiet count. -/
def State.resetQuietCount (s : State) : State :=
  if s.engine.state = .quiet then s.enterQuiet else s

/-- The engine's answer to a change of its stopping conditions (R72 to R74). -/
def State.reviewStopping (s : State) : State :=
  match s.stopping with
  | some st =>
    if s.engine.state.running then
      s.withEngine { s.engine with
        state := st, windowCount := 0, quietCount := 0, pendingTrigger := none, deferred := none }
    else s.withEngine { s.engine with state := st }
  | none => if s.engine.state.running then s else s.enterQuiet

/-! ### Occupancy and admission (R89, R94, R95) -/

/-- The contexts in ARMING or ARMED, whose orders keep their places in the queue's room. -/
def State.unfiredContexts (s : State) : Nat := (s.inFlight.filter fun e => e.2.state != .fired).length

/-- The queue's occupancy (R89). -/
def State.occupancy (s : State) : Nat := s.queue.orders.length + s.unfiredContexts

/-- The queued order of a connection, if any. -/
def State.queuedOrder (s : State) (c : ConnId) : Option Order := s.queue.orders.find? fun o => o.conn == c

/-- An order joins the end of the queue: it takes the next admission number and the present part time, and its
connection becomes QUEUED (R90, R94). -/
def State.enqueue (s : State) (c : ConnId) (target : Phase) (src : Source) (priority life : Nat)
    (trigger : Option TriggerId) (gain : Option Nat) : State :=
  let o : Order := ⟨c, target, src, priority, s.partTime, s.queue.admissions, life, trigger, gain⟩
  (s.withQueue ⟨s.queue.orders ++ [o], s.queue.admissions + 1⟩).setMotion c .queued

/-! ### Removal without dispatch (R96) -/

/-- An order is taken out of the queue and its log record is written (effects 1 and 2 of R96). -/
def State.dropOrder (s : State) (o : Order) (outcome : LogOutcome) : State :=
  (s.withQueue { s.queue with orders := s.queue.orders.filter fun q => q.conn != o.conn }).writeLog o.conn
    (s.conn o.conn).recordedPhase o.target o.source o.trigger o.gain outcome

/-- A connection's queued order leaves the queue without dispatch: effects 1 to 4 of R96. The dispatch choice is the
last part of the event that removes it. -/
def State.removeQueued (s : State) (c : ConnId) (outcome : LogOutcome) : State :=
  match s.queuedOrder c with
  | none => s
  | some o => ((s.dropOrder o outcome).setMotion c .idle).orderEnded o.source

/-- A connection's queued BALANCER order leaves the queue; a master order stays (R99, R101). -/
def State.removeBalancer (s : State) (c : ConnId) (outcome : LogOutcome) : State :=
  match s.queuedOrder c with
  | none => s
  | some o => if o.source = .balancer then s.removeQueued c outcome else s

/-! ### The return of an order (R105) -/

/-- An order's place among the others, by its admission number. -/
def insertByAdmission (o : Order) : List Order → List Order
  | [] => [o]
  | q :: rest => if q.admissionNumber < o.admissionNumber then q :: insertByAdmission o rest else o :: q :: rest

/-- What a returning balancer order meets: its connection lost, or pinned (R105). -/
def State.meetReturn (s : State) (c : ConnId) : State :=
  if (s.conn c).presence.lost then s.removeBalancer c .notPresent
  else if (s.conn c).pins.isEmpty then s
  else s.removeBalancer c .withdrawn

/-- A context's order returns to the queue with the fields it carried, its connection becomes QUEUED and the context
is released; a balancer order then meets its connection as it stands (R105). -/
def State.returnOrder (s : State) (k : CtxId) (x : Context) : State :=
  let s₁ := (s.releaseContext k).withQueue { s.queue with orders := insertByAdmission x.order s.queue.orders }
  (s₁.setMotion x.order.conn .queued).meetReturn x.order.conn

end Sys2Proof.Machine
end

