-- ==== Sys2Proof/Machine/Bus.lean ====
section
/-!
DEFINITION. The selector bus controller's shared operations (chapter 6): the request slots and the arbiter, the
rotation and the survey, the presence machine, and what a good poll reply tells the connection record.
-/

namespace Sys2Proof.Machine

/-! ### Request slots (R114, R128, R145) -/

/-- A release disarm is raised for a connection; a disarm already waiting there takes its mark (R145). -/
def State.raiseRelease (s : State) (c : ConnId) (dispatchNumber : Nat) : State :=
  s.withBus { s.bus with disarmSlots := s.bus.disarmSlots.set c (some (.release dispatchNumber)) }

/-- A stray disarm is raised for a connection, unless one is already waiting for it (R128). -/
def State.raiseStray (s : State) (c : ConnId) : State :=
  if (s.bus.disarmSlots.get c).isSome then s
  else s.withBus { s.bus with disarmSlots := s.bus.disarmSlots.set c (some .stray) }

/-- A waiting disarm is withdrawn, or leaves its slot at grant (R128, R132, R114). -/
def State.clearDisarm (s : State) (c : ConnId) : State :=
  s.withBus { s.bus with disarmSlots := s.bus.disarmSlots.set c none }

/-- The outstanding request ends (R113). -/
def State.endOutstanding (s : State) : State := s.withBus { s.bus with outstanding := none }

/-! ### Rotation and survey (R116, R117) -/

/-- A connection is a member of the routine rotation (R116). -/
def State.inRotation (s : State) (c : ConnId) : Bool :=
  let x := s.conn c
  s.used c && (x.presence == .arriving || x.presence == .present || x.presence == .lapsing) && !x.motion.inFlight

/-- The rotation's choice at grant: the lowest member above the position, else the lowest member (R116). -/
def State.rotationChoice (s : State) : Option ConnId :=
  let members := allConns.filter s.inRotation
  match s.bus.position with
  | none => members.head?
  | some p =>
    match members.find? fun c => decide (p < c) with
    | some c => some c
    | none => members.head?

/-- A connection a survey round polls: used, and ABSENT or MISMATCH (R117). -/
def State.surveyed (s : State) (c : ConnId) : Bool := s.used c && (s.conn c).presence.lost

/-- A survey round starts; with an empty list it ends in the same event (R117). -/
def State.startRound (s : State) : State :=
  let list := allConns.filter s.surveyed
  s.withBus { s.bus with surveyList := list, surveyRunning := !list.isEmpty, surveySlot := !list.isEmpty }

/-- The survey timer restarts with the survey interval (R117, R118). -/
def State.restartSurveyTimer (s : State) : State :=
  s.withBus { s.bus with surveyTimer := s.setting .surveyInterval }

/-- The survey timer's expiry: a round starts if none is running, and the timer restarts in both cases (R117). -/
def State.expireSurveyTimer (s : State) : State :=
  (if s.bus.surveyRunning then s else s.startRound).restartSurveyTimer

/-- A survey poll has ended: with nothing left on the list, so has the round (R117). -/
def State.endSurveyPoll (s : State) : State :=
  if s.bus.surveyList.isEmpty then s.withBus { s.bus with surveyRunning := false, surveySlot := false } else s

/-! ### The arbiter (R115) -/

/-- A request is sent: it becomes the outstanding one and carries the tag, which then advances (R113, log entry 10). -/
def State.send (s : State) (c : ConnId) (r : BusRequest) (raiser : Raiser) : State :=
  s.withBus { s.bus with outstanding := some ⟨c, s.bus.tag, r, raiser⟩, tag := s.bus.tag + 1 }

/-- Of the contexts that satisfy a test, the one whose transfer was dispatched earlier (R115, R131). -/
def State.earliest (s : State) (test : CtxId → Context → Bool) : Option (CtxId × Context) :=
  match s.inFlight.filter fun e => test e.1 e.2 with
  | [] => none
  | e :: rest => some (rest.foldl (fun b f => if f.2.dispatchNumber < b.2.dispatchNumber then f else b) e)

/-- The context whose request of one class goes first. -/
def State.waitingRequest (s : State) (r : CtxRequest) : Option (CtxId × Context) :=
  s.earliest fun _ x => x.slot == some r

/-- The dispatch number of the release disarm waiting for a connection. -/
def State.releaseMark (s : State) (c : ConnId) : Option Nat :=
  match s.bus.disarmSlots.get c with
  | some (.release n) => some n
  | _ => none

/-- The disarm that goes first: release disarms by dispatch number, then stray ones by connection number (R115). -/
def State.nextDisarm (s : State) : Option ConnId :=
  let releases := allConns.filterMap fun c => (s.releaseMark c).map fun n => (c, n)
  match releases with
  | [] => allConns.find? fun c => (s.bus.disarmSlots.get c).isSome
  | e :: rest => some (rest.foldl (fun b f => if f.2 < b.2 then f else b) e).1

/-- A context's request is granted; an ARM carries the settings in force now (R132). -/
def State.grantContext (s : State) (k : CtxId) (x : Context) (r : CtxRequest) : State :=
  let armHold := s.setting .armHold
  match r with
  | .fire => (s.setContext k (some { x with slot := none })).send x.order.conn .fire (.context x.dispatchNumber)
  | .confirm => (s.setContext k (some { x with slot := none })).send x.order.conn .poll (.context x.dispatchNumber)
  | .arm =>
    (s.setContext k (some { x with slot := none, armHoldSent := some armHold })).send x.order.conn
      (.arm x.order.target (s.setting .deadInterval) armHold) (.context x.dispatchNumber)

/-- The survey class: the round takes the next connection of its list that still qualifies, and strikes the others;
with none left the round ends (R117). -/
def State.grantSurvey (s : State) : State :=
  if s.bus.surveySlot then
    match s.bus.surveyList.dropWhile fun c => !(s.surveyed c && !(s.conn c).motion.inFlight) with
    | [] => s.withBus { s.bus with surveyList := [], surveyRunning := false, surveySlot := false }
    | c :: rest =>
      (s.withBus { s.bus with surveyList := rest, surveySlot := !rest.isEmpty }).send c .poll .survey
  else s

/-- The routine class: the rotation chooses at grant; with no member the request is dropped (R116), and that the same
choice then goes on to the survey class is the model's reading (log entry 30). -/
def State.grantRoutine (s : State) : State :=
  if s.bus.routineSlot then
    let timer := some (s.setting .routineSpacing)
    match s.rotationChoice with
    | some c =>
      (s.withBus { s.bus with routineSlot := false, position := some c, routineTimer := timer }).send c .poll .routine
    | none => (s.withBus { s.bus with routineSlot := false, routineTimer := timer }).grantSurvey
  else s.grantSurvey

/-- The arbiter's choice at the end of an event, when the bus is free (R115). -/
def State.arbitrate (s : State) : State :=
  if s.bus.outstanding.isSome then s
  else
    match s.waitingRequest .fire with
    | some (k, x) => s.grantContext k x .fire
    | none =>
      match s.nextDisarm with
      | some c => (s.clearDisarm c).send c .disarm .disarmSlot
      | none =>
        match s.waitingRequest .confirm with
        | some (k, x) => s.grantContext k x .confirm
        | none =>
          match s.waitingRequest .arm with
          | some (k, x) => s.grantContext k x .arm
          | none => s.grantRoutine

/-! ### The presence machine (R119 to R123) -/

/-- Entry to ARRIVING (R120). -/
def Connection.arrive (x : Connection) (serial : Word) (hold : Nat) : Connection :=
  { x with presence := .arriving, arrivalHold := hold, identitySerial := serial, lapseCount := 0, beforeLapse := none,
           lastSerial := serial, directSample := true }

/-- Entry to MISMATCH (R123). -/
def Connection.mismatch (x : Connection) (serial : Word) : Connection :=
  { x with presence := .mismatch, lapseCount := 0, beforeLapse := none, arrivalHold := 0, recordedPhase := none,
           lastSerial := serial }

/-- A good reply while ARRIVING, PRESENT or LAPSING with the identity serial: LAPSING returns to its state before the
lapse, ARRIVING with a full hold (R121, R122). -/
def Connection.answer (x : Connection) (serial : Word) (hold : Nat) : Connection :=
  match x.presence, x.beforeLapse with
  | .lapsing, some .present =>
    { x with presence := .present, lapseCount := 0, beforeLapse := none, lastSerial := serial }
  | .lapsing, _ =>
    { x with presence := .arriving, arrivalHold := hold, lapseCount := 0, beforeLapse := none, lastSerial := serial }
  | _, _ => { x with lastSerial := serial }

/-- The connection enters MISMATCH, and the UNIT_MISMATCH cause is live (R123). -/
def State.enterMismatch (s : State) (c : ConnId) (serial : Word) : State :=
  (s.modConn c fun x => x.mismatch serial).raise .unitMismatch

/-- The presence machine on a good reply; the flag says whether the reply is taken as a mismatch (R119 to R123). -/
def State.presenceReply (s : State) (c : ConnId) (serial : Word) : State × Bool :=
  let x := s.conn c
  let expected := (s.config c).expectedSerial
  let hold := s.setting .arrivalHold
  match x.presence with
  | .absent =>
    if expected = 0 ∨ expected = serial then (s.setConn c (x.arrive serial hold), false)
    else (s.enterMismatch c serial, true)
  | .mismatch =>
    let matched := if expected = 0 then serial = x.identitySerial else serial = expected
    (s.setConn c { x with lastSerial := serial, presence := if matched then .absent else .mismatch }, true)
  | .arriving =>
    if serial = x.identitySerial then (s.setConn c (x.answer serial hold), false) else (s.enterMismatch c serial, true)
  | .present =>
    if serial = x.identitySerial then (s.setConn c (x.answer serial hold), false) else (s.enterMismatch c serial, true)
  | .lapsing =>
    if serial = x.identitySerial then (s.setConn c (x.answer serial hold), false) else (s.enterMismatch c serial, true)

/-- The state before the lapse of a connection that begins to lapse (R119). -/
def Connection.lapse (x : Connection) (before : BeforeLapse) : Connection :=
  { x with presence := .lapsing, lapseCount := 1, beforeLapse := some before, arrivalHold := 0 }

/-- The presence machine on a lapse (R122). -/
def State.presenceLapse (s : State) (c : ConnId) : State :=
  let x := s.conn c
  match x.presence with
  | .arriving => s.setConn c (x.lapse .arriving)
  | .present => s.setConn c (x.lapse .present)
  | .lapsing =>
    if s.setting .lapseLimit ≤ x.lapseCount + 1 then
      (s.setConn c { x with presence := .absent, lapseCount := 0, beforeLapse := none }).raiseIf
        (x.beforeLapse == some .present) .unitLost
    else s.setConn c { x with lapseCount := x.lapseCount + 1 }
  | .absent => s
  | .mismatch => s

/-! ### What a poll reply tells the part (section 6.6) -/

/-- The load estimate after a power sample: set directly by the first sample since ABSENT, else smoothed (R7 to R9). -/
def smooth (direct : Bool) (shift : Nat) (load : Int) (sample : Int) : Int :=
  let clamped := clampInt (-2000) 2000 sample
  if direct then clamped else clampInt (-2000) 2000 (load + Int.tdiv (clamped - load) (2 ^ shift))

/-- The poll report and the load estimate (R125, R7). -/
def State.takeReport (s : State) (c : ConnId) (r : PollReport) : State :=
  s.modConn c fun x =>
    { x with lastReport := some r, directSample := false,
             load := smooth x.directSample (s.setting .smoothingShift) x.load r.power.toInt }

/-- Effects 1 to 4 of an observed local change (R126); effect 5 is `supersede`. -/
def State.observeChange (s : State) (c : ConnId) (old new : Phase) : State :=
  let s₁ := s.modConn c fun x => { x with recordedPhase := some new }
  let s₂ := s₁.writeLog c (some old) new .localSwitch none none .observed
  let s₃ := (s₂.startSettle c).modConn c fun x => { x with transfersToday := saturatingInc 255 x.transfersToday }
  s₃.resetQuietCount

/-- The recorded phase from a good poll reply (R126). -/
def State.takePhase (s : State) (c : ConnId) (r : PollReport) : State :=
  let x := s.conn c
  let kind := (s.config c).kind
  if (kind = .movable ∨ kind = .fixed) ∧ x.motion.inFlight = false then
    match r.closedPhase, x.recordedPhase with
    | some p, none => s.setConn c { x with recordedPhase := some p }
    | some p, some q =>
      if p = q then s
      else if x.motion = .faulted then s.setConn c { x with recordedPhase := some p }
      else s.observeChange c q p
    | none, _ => if r.unitState = .transferring then s else s.setConn c { x with recordedPhase := none }
  else s

/-- The LOCAL member of a connection's pin set (R127). -/
def State.setLocal (s : State) (c : ConnId) (engaged : Bool) : State :=
  s.modConn c fun x => { x with pins := { x.pins with localSwitch := engaged } }

/-- A poll reply that shows ARMED while no transfer is in flight for the connection shows a stray arm (R128). -/
def State.checkStray (s : State) (c : ConnId) (r : PollReport) : State :=
  if r.unitState = .armed ∧ (s.conn c).motion.inFlight = false then s.raiseStray c else s

/-- All that a good poll reply, not a mismatch, does to the connection record (R125 to R128). -/
def State.takePoll (s : State) (c : ConnId) (r : PollReport) : State :=
  ((((s.takeReport c r).takePhase c r).setLocal c r.localEngaged).checkStray c r)

/-- A queued order whose target the recorded phase has become ends SUPERSEDED (R100). -/
def State.supersede (s : State) (c : ConnId) : State :=
  match s.queuedOrder c with
  | none => s
  | some o => if (s.conn c).recordedPhase = some o.target then s.removeQueued c .superseded else s

/-- The removals that the move queue attaches to the changes a reply or a lapse made to a connection, which stood as
`old` before it (R99 to R101, R119, R124, log entry 14). -/
def State.attachRemovals (s : State) (c : ConnId) (old : Connection) : State :=
  let x := s.conn c
  let s₁ := if x.presence.lost ∧ x.presence ≠ old.presence then s.removeBalancer c .notPresent else s
  let s₂ := if x.recordedPhase ≠ old.recordedPhase then s₁.supersede c else s₁
  if x.pins.localSwitch ∧ old.pins.localSwitch = false then s₂.removeBalancer c .withdrawn else s₂

end Sys2Proof.Machine
end

