-- ==== Sys2Proof/Machine/Transfer.lean ====
section
/-!
DEFINITION. The transfer controller's shared operations (chapter 7): the dispatch choice, the fire slot, the end of a
transfer, what a reply or a lapse does to a context, and how a hold or a restart deferral reaches the contexts.
-/

namespace Sys2Proof.Machine

/-! ### Dispatch (R103, R104, R132) -/

/-- No hold is in force and no restart is deferred: an order may be dispatched and the fire slot taken (R103, R131). -/
def State.movesAllowed (s : State) : Bool := !s.hold.nonempty && !s.restartDeferred

/-- The first free context (R104). -/
def State.freeContext (s : State) : Option CtxId :=
  if (s.context .first).isNone then some .first else if (s.context .second).isNone then some .second else none

/-- Higher priority first, then the lower connection number (R104). -/
def Order.before (o p : Order) : Bool :=
  decide (p.priority < o.priority) || (o.priority == p.priority && decide (o.conn < p.conn))

/-- The order a dispatch choice takes (R104). -/
def State.bestOrder (s : State) : Option Order :=
  match s.queue.orders.filter fun o => decide (1 ≤ o.priority) && s.dispatchable o with
  | [] => none
  | o :: rest => some (rest.foldl (fun best p => if p.before best then p else best) o)

/-- A context filled from an order at dispatch, with its ARM raised (R104, R132). -/
def State.newContext (s : State) (o : Order) : Context where
  order := o
  sourcePhase := (s.conn o.conn).recordedPhase
  dispatchNumber := s.transfers.nextDispatch
  state := .arming
  retries := 0
  reArmUsed := false
  fireRetried := false
  armHoldSent := none
  armDeadline := none
  confirmDeadline := none
  confirmTimer := none
  counterAtDispatch := (s.conn o.conn).lastReport.map (·.counter)
  slot := some .arm

/-- An order moves from the queue into a free context (R104); a waiting disarm for its connection is withdrawn. -/
def State.dispatch (s : State) (k : CtxId) (o : Order) : State :=
  let t := s.transfers.put k (some (s.newContext o))
  let s₁ := s.withTransfers { t with nextDispatch := s.transfers.nextDispatch + 1 }
  let s₂ := s₁.withQueue { s.queue with orders := s.queue.orders.filter fun q => q.conn != o.conn }
  (s₂.setMotion o.conn .arming).clearDisarm o.conn

/-- One round of the dispatch choice. -/
def State.dispatchOnce (s : State) : State :=
  if s.movesAllowed then
    match s.freeContext, s.bestOrder with
    | some k, some o => s.dispatch k o
    | _, _ => s
  else s

/-- The dispatch choice (R103). There are two contexts, so two rounds leave none free or nothing to dispatch. -/
def State.dispatchChoice (s : State) : State := s.dispatchOnce.dispatchOnce

/-! ### The fire slot (R131) -/

/-- A context waiting for the free fire slot takes it and raises FIRE; of two, the one dispatched earlier (R131). -/
def State.takeFireSlot (s : State) : State :=
  if s.transfers.fireSlot.isNone && s.movesAllowed then
    match s.earliest fun _ x => x.state == .armed with
    | some (k, x) =>
      let t := s.transfers.put k (some { x with armDeadline := none, slot := some .fire })
      s.withTransfers { t with fireSlot := some k }
    | none => s
  else s

/-! ### The last parts of an event -/

/-- What ends an event that changes something a dispatch choice depends on: the fire slot, the dispatch choice, the
arbiter, the attention lines (R131, R103, R115, R165). -/
def State.finish (s : State) : State := s.takeFireSlot.dispatchChoice.arbitrate.setLines

/-! ### The end of a transfer (R144, R145) -/

/-- How a transfer ends, with what its effects need (R144). `unitFault` is REFUSED with fault cause UNIT_FAULT. -/
inductive Ending where
  | completed
  | fellBack (phase : Phase)
  | faultOpen
  | unconfirmed
  | refused
  | unitFault
  | noReply
  | withdrawn
  deriving DecidableEq, Repr

def Ending.outcome : Ending → LogOutcome
  | .completed => .completed | .fellBack _ => .fellBack | .faultOpen => .faultOpen | .unconfirmed => .unconfirmed
  | .refused => .refused | .unitFault => .refused | .noReply => .noReply | .withdrawn => .withdrawn

/-- The connection record after a transfer's end, by the table of R144. -/
def Connection.afterEnding (x : Connection) (target : Phase) (settle : Nat) : Ending → Connection
  | .completed =>
    { x with recordedPhase := some target, settle := settle, transfersToday := saturatingInc 255 x.transfersToday,
             motion := .idle }
  | .fellBack p => { x with recordedPhase := some p, settle := settle, motion := .idle }
  | .faultOpen =>
    { x with recordedPhase := none, settle := settle, motion := .faulted, faultCause := some .openContact }
  | .unconfirmed =>
    { x with recordedPhase := none, settle := settle, motion := .faulted, faultCause := some .unconfirmed }
  | .refused => { x with motion := .idle }
  | .unitFault => { x with motion := .faulted, faultCause := some .unitFault }
  | .noReply => { x with motion := .idle }
  | .withdrawn => { x with motion := .idle }

/-- A transfer ends: effects 1 to 5 of R144, with a release disarm where R145 requires one. -/
def State.endTransfer (s : State) (k : CtxId) (x : Context) (e : Ending) (disarm : Bool) : State :=
  let c := x.order.conn
  let s₁ := s.modConn c fun y => y.afterEnding x.order.target (s.setting .settleInterval) e
  let s₂ := s₁.writeLog c x.sourcePhase x.order.target x.order.source x.order.trigger x.order.gain e.outcome
  let s₃ := s₂.releaseContext k
  let s₄ := if disarm then s₃.raiseRelease c x.dispatchNumber else s₃
  let s₅ := s₄.raiseIf (e == .faultOpen) .transferFault
  s₅.resetQuietCount.orderEnded x.order.source

/-- A context disarmed by a hold or a restart deferral: a master order returns to the queue, a balancer order ends
WITHDRAWN, and a release disarm is raised (R147, R149). -/
def State.disarmContext (s : State) (k : CtxId) (x : Context) : State :=
  if x.order.source = .balancer then s.endTransfer k x .withdrawn true
  else (s.returnOrder k x).raiseRelease x.order.conn x.dispatchNumber

/-- A context that a hold reaches at once: neither FIRED nor with its FIRE outstanding (R147). -/
def State.reachable (s : State) (x : Context) : Bool := x.state != .fired && !s.fireOutstanding x

/-- One context is reached by a hold or a restart deferral, by its stage (R147, R149). -/
def State.reachContext (s : State) (k : CtxId) : State :=
  match s.context k with
  | none => s
  | some x => if s.reachable x then s.disarmContext k x else s

/-- The context would be reached and its order end WITHDRAWN. -/
def State.wouldWithdraw (s : State) (k : CtxId) : Bool :=
  match s.context k with
  | none => false
  | some x => s.reachable x && x.order.source == .balancer

/-- Both contexts are reached (R147, R149). The order matters only when both end WITHDRAWN; it is then a free value
(log entry 12). -/
def State.reachContexts (s : State) : State :=
  if s.wouldWithdraw .first && s.wouldWithdraw .second then
    if Config.secondContextFirst s.log.nextSequence then (s.reachContext .second).reachContext .first
    else (s.reachContext .first).reachContext .second
  else (s.reachContext .first).reachContext .second

/-! ### Replies and lapses handed to a context -/

/-- An ARMED reply (R134, R146). -/
def State.takeArmed (s : State) (k : CtxId) (x : Context) (mismatch : Bool) : State :=
  if mismatch then s.endTransfer k x .refused true
  else (s.setContext k (some { x with state := .armed, armDeadline := x.armHoldSent })).setMotion x.order.conn .armed

/-- A refusal of ARM (R135, R146). -/
def State.takeRefusal (s : State) (k : CtxId) (x : Context) (reason : ArmRefusal) (mismatch : Bool) : State :=
  if mismatch then s.endTransfer k x .refused true
  else s.endTransfer k x (if reason = .fault then .unitFault else .refused) false

/-- A FIRING reply (R138, R146). -/
def State.takeFiring (s : State) (k : CtxId) (x : Context) : State :=
  (s.setContext k (some { x with
    state := .fired, confirmDeadline := some (s.setting .confirmTimeout),
    confirmTimer := some Config.confirmInterval })).setMotion x.order.conn .fired

/-- The single re-ARM: the fire slot is released and ARM raised again (R139). -/
def State.reArm (s : State) (k : CtxId) (x : Context) : State :=
  let t := s.transfers.put k (some { x with state := .arming, retries := 0, reArmUsed := true, slot := some .arm })
  let s₁ := s.withTransfers { t with fireSlot := if t.fireSlot = some k then none else t.fireSlot }
  s₁.setMotion x.order.conn .arming

/-- A NOT_ARMED reply to FIRE (R139, R140, R146, R147, R149). -/
def State.takeNotArmed (s : State) (k : CtxId) (x : Context) (mismatch : Bool) : State :=
  if x.fireRetried then s.endTransfer k x .unconfirmed true
  else if mismatch then s.endTransfer k x .refused true
  else if s.movesAllowed then
    if x.reArmUsed then s.endTransfer k x .refused false else s.reArm k x
  else s.disarmContext k x

/-- What a good confirm poll reply decides, by the table of R142. -/
def Context.decision (x : Context) (r : PollReport) : Option Ending :=
  let moved := x.counterAtDispatch != some r.counter
  match r.unitState, r.closedPhase with
  | .steady, some p =>
    if p = x.order.target then some .completed
    else
      match x.sourcePhase with
      | some q => if p = q ∧ moved then some (.fellBack p) else none
      | none => if moved then some (.fellBack p) else none
  | .steady, none => none
  | .fault, none => some .faultOpen
  | .fault, some _ => none
  | .transferring, _ => none
  | .armed, _ => none

/-- A confirm poll's reply handed to its context (R142, R146). -/
def State.takeConfirm (s : State) (k : CtxId) (x : Context) (r : PollReport) (mismatch : Bool) : State :=
  if mismatch then s
  else
    match x.decision r with
    | some e => s.endTransfer k x e false
    | none => s

/-- A good reply is handed to the block that raised the request (R114, R119, R130). -/
def State.handReply (s : State) (o : Outstanding) (r : Reply) (mismatch : Bool) : State :=
  match o.raiser with
  | .context n =>
    match s.contextNumbered n with
    | none => s
    | some (k, x) =>
      match r with
      | .poll report => s.takeConfirm k x report mismatch
      | .armed => s.takeArmed k x mismatch
      | .armRefused reason => s.takeRefusal k x reason mismatch
      | .firing => s.takeFiring k x
      | .notArmed => s.takeNotArmed k x mismatch
      | .idle => s
  | .survey => s.endSurveyPoll
  | .routine => s
  | .disarmSlot => s

/-- A lapse of a context's ARM: retried twice, then NO_REPLY (R136). -/
def State.lapseArm (s : State) (k : CtxId) (x : Context) : State :=
  if x.retries < Config.armRetries then
    s.setContext k (some { x with retries := x.retries + 1, slot := some .arm })
  else s.endTransfer k x .noReply true

/-- A lapse of a context's FIRE (R140). -/
def State.lapseFire (s : State) (k : CtxId) (x : Context) : State :=
  if x.fireRetried = false ∧ s.movesAllowed then
    s.setContext k (some { x with fireRetried := true, slot := some .fire })
  else s.endTransfer k x .unconfirmed true

/-- A lapse is handed to the block that raised the request (R136, R140, R141). -/
def State.handLapse (s : State) (o : Outstanding) : State :=
  match o.raiser with
  | .context n =>
    match s.contextNumbered n with
    | none => s
    | some (k, x) =>
      match o.request with
      | .arm _ _ _ => s.lapseArm k x
      | .fire => s.lapseFire k x
      | .poll => s
      | .disarm => s
  | .survey => s.endSurveyPoll
  | .routine => s
  | .disarmSlot => s

end Sys2Proof.Machine
end

