-- ==== Sys2Proof/Machine/Start.lean ====
section
/-!
DEFINITION. Power-on, restart and saving (chapter 11), and the values every block takes after each reset.
-/

namespace Sys2Proof.Machine

/-! ### The values of the blocks after a reset -/

/-- The metering input after power-on and after restart (R41). -/
def meteringAfterReset (st : Settings) : Metering where
  status := .stale
  lost := false
  staleTimer := some (3 * st.numeric.get SettingId.windowLength.number)
  lastSequence := 0
  gapCount := 0
  phases := ⟨PhaseState.initial, PhaseState.initial, PhaseState.initial⟩
  unbalance := 0
  rx := none

/-- The balance engine after power-on and after restart (R87, R88). -/
def engineAfterReset (st : Settings) : Engine where
  state := if st.numeric.get SettingId.balancerEnable.number = 0 then .off else .starved
  paused := false
  active := false
  windowCount := 0
  quietCount := 0
  pendingTrigger := none
  deferred := none
  triggers := Vector.replicate 8 ⟨0, false⟩
  report := none

/-- The selector bus controller after power-on and after restart, before its first survey round (R129). -/
def busAfterReset (st : Settings) : Bus where
  outstanding := none
  tag := 0
  routineSlot := false
  surveySlot := false
  disarmSlots := Vector.replicate 64 none
  position := none
  routineTimer := some (st.numeric.get SettingId.routineSpacing.number)
  surveyTimer := st.numeric.get SettingId.surveyInterval.number
  surveyRunning := false
  surveyList := []

/-- A connection record after power-on (R22, R129, R153). -/
def connAfterPowerOn (st : Settings) (c : ConnId) : Connection :=
  { Connection.initial with
    settle := if (st.conns.get c).kind = .unused then 0 else st.numeric.get SettingId.settleInterval.number }

/-- A connection record after a restart: transfers today, the pin set, FAULTED and its cause are kept, unless the
reloaded kind is UNUSED, which empties the pin set and clears FAULTED (R23, R129, R153). -/
def connAfterRestart (st : Settings) (c : ConnId) (x : Connection) : Connection :=
  let fresh := { connAfterPowerOn st c with transfersToday := x.transfersToday }
  if (st.conns.get c).kind = .unused then fresh
  else if x.motion = .faulted then { fresh with pins := x.pins, motion := .faulted, faultCause := x.faultCause }
  else { fresh with pins := x.pins }

/-- A port after power-on (R174, R175). -/
def portAfterPowerOn (st : Settings) (p : Port) : PortState :=
  ⟨none, none, none, 0, 0, st.numeric.get (baudSetting p).number, none⟩

/-- A port after a restart: a response in transmission is completed at the rate in use, and the reloaded rate is
taken up when it has left (R174, R175). -/
def portAfterRestart (st : Settings) (p : Port) (x : PortState) : PortState :=
  let rate := st.numeric.get (baudSetting p).number
  match x.response with
  | none => ⟨none, none, none, 0, 0, rate, none⟩
  | some r => ⟨none, none, some r, 0, 0, x.baud, some rate⟩

/-! ### Power-on (R187, R190) -/

/-- The stored image when supply returns: a save in progress was broken off, and its image's CRC does not match
(R189). -/
def State.imageAfterLoss (s : State) : Option Settings := if s.saving.isSome then none else s.image

/-- Every block at its power-on values, with the image loaded or the defaults taken (steps 1 and 2 of R190). -/
def poweredUp (pending : List Instr) (image : Option Settings) : State :=
  let st := image.getD Settings.defaults
  let alarms : AlarmSet := { AlarmSet.empty with settingsDefaulted := image.isNone }
  { pending := pending, powered := true, settings := st, image := image, saving := none, restartDeferred := false,
    partTime := 0, conns := Vector.ofFn (connAfterPowerOn st), metering := meteringAfterReset st,
    engine := engineAfterReset st, queue := ⟨[], 0⟩, bus := busAfterReset st, transfers := ⟨none, none, none, 1⟩,
    hold := HoldSet.empty, alarms := ⟨alarms, alarms, alarms⟩, attention := ⟨false, false, false⟩, log := ⟨[], 1⟩,
    ports := ⟨portAfterPowerOn st .op, portAfterPowerOn st .sp, portAfterPowerOn st .pp⟩ }

/-- Power-on: the blocks, then the first survey round, the arbiter and the attention lines (R190, R166). -/
def State.powerOn (s : State) : State :=
  (poweredUp s.pending s.imageAfterLoss).startRound.arbitrate.setLines

/-! ### Restart (R191, R192) -/

/-- Every queued order is removed CANCELLED, in queue order, without a word to the engine (R108). -/
def State.cancelAll (s : State) : State :=
  s.queue.orders.foldl (fun t o => (t.dropOrder o .cancelled).setMotion o.conn .idle) s

/-- The image is read: the working settings are its items, or the defaults, with SETTINGS_DEFAULTED raised (R187). -/
def State.loadImage (s : State) : State :=
  (s.withSettings (s.image.getD Settings.defaults)).raiseIf s.image.isNone .settingsDefaulted

/-- Every block takes its restart values, and keeps what R192 keeps. -/
def State.restartBlocks (s : State) : State :=
  let st := s.settings
  { s with
    restartDeferred := false
    conns := Vector.ofFn fun c => connAfterRestart st c (s.conns.get c)
    metering := meteringAfterReset st
    engine := engineAfterReset st
    queue := ⟨[], 0⟩
    bus := busAfterReset st
    transfers := ⟨none, none, none, 1⟩
    ports := ⟨portAfterRestart st .op s.ports.op, portAfterRestart st .sp s.ports.sp,
      portAfterRestart st .pp s.ports.pp⟩ }

/-- The restart takes effect (R192), but for the arbiter and the attention lines, which end the event. -/
def State.restartEffect (s : State) : State := s.cancelAll.loadImage.restartBlocks.startRound

/-- A context is FIRED or has its FIRE outstanding, or a save is in progress: the restart is deferred (R191). -/
def State.restartHeld (s : State) : Bool :=
  s.saving.isSome || s.inFlight.any fun e => e.2.state == .fired || s.fireOutstanding e.2

/-- The restart takes effect at the first event after which nothing holds it (R191, step 8 of R144). -/
def State.restartIfDue (s : State) : State :=
  if s.restartDeferred ∧ s.restartHeld = false then s.restartEffect else s

/-- What ends an event that may end a transfer or a FIRE: as `finish`, with the deferred restart before the arbiter. -/
def State.finishTransfer (s : State) : State := s.takeFireSlot.dispatchChoice.restartIfDue.arbitrate.setLines

end Sys2Proof.Machine
end

