-- ==== Sys2Proof/Machine/Reading.lean ====
section
/-!
DEFINITION. The reading requests: what each returns, laid out as R181 gives it. None changes any state (R173).
-/

namespace Sys2Proof.Machine

/-- What a request comes to: the state after its effect, its status, and its response data (R169). -/
structure Answer where
  state : State
  status : Status
  data : List Byte
  deriving DecidableEq, Repr

/-- A request refused with a status: no effect and no data (R169). -/
def State.refuse (s : State) (st : Status) : Answer := ⟨s, st, []⟩

/-! ### Records (R181) -/

/-- The recorded phase as a record shows it: absent for a THREE_PHASE connection (R5). -/
def State.shownPhase (s : State) (c : ConnId) : Byte :=
  if (s.config c).kind = .threePhase then absentByte else phaseByte (s.conn c).recordedPhase

/-- A connection record, 23 bytes (R181). -/
def State.recordBytes (s : State) (c : ConnId) : List Byte :=
  let cfg := s.config c
  let x := s.conn c
  [byteOf c.val, cfg.kind.byte, phaseSetByte cfg.allowed] ++ wordBytes cfg.expectedSerial ++ [x.presence.byte]
    ++ natHalf x.arrivalHold ++ [x.motion.byte, s.shownPhase c] ++ intHalf x.load ++ natHalf x.settle
    ++ [byteOf x.transfersToday, x.pins.byte] ++ wordBytes x.lastSerial
    ++ [match x.faultCause with | some f => f.byte | none => absentByte]

/-- An optional record: a presence byte, and zero bytes in an absent record's place (R176). -/
def optionalRecord (width : Nat) : Option (List Byte) → List Byte
  | none => 0 :: List.replicate width 0
  | some bs => 1 :: bs

/-- The pass report, 17 bytes (R67, R181). -/
def PassReport.bytes (r : PassReport) : List Byte :=
  wordBytes r.time ++ [triggerByte r.trigger] ++ natHalf r.startSpread ++ natHalf r.startIndex
    ++ [byteOf r.eligible, byteOf r.chosen, byteOf r.placed, r.ending.byte] ++ natHalf r.finalSpread
    ++ natHalf r.finalIndex

/-- A context in flight, 9 bytes (R152, R181). -/
def State.contextBytes (s : State) (k : CtxId) (x : Context) : List Byte :=
  [byteOf x.order.conn.val, phaseByte x.sourcePhase, phaseByte (some x.order.target), x.order.source.byte,
    x.state.byte, flagByte (s.transfers.fireSlot == some k), byteOf x.retries, flagByte x.reArmUsed,
    flagByte x.fireRetried]

/-- A queued order as READ_QUEUE lists it (R106, R181). -/
def Order.bytes (o : Order) : List Byte :=
  [byteOf o.conn.val, phaseByte (some o.target), o.source.byte, byteOf o.priority] ++ wordBytes o.admissionTime
    ++ natHalf o.life ++ [triggerByte o.trigger] ++ gainBytes o.gain

/-- A log record as READ_LOG returns it (R181). -/
def LogRecord.bytes (r : LogRecord) : List Byte :=
  wordBytes r.time ++ [byteOf r.conn.val, phaseByte r.fromPhase, phaseByte (some r.toPhase), r.source.byte,
    triggerByte r.trigger] ++ gainBytes r.gain ++ [r.outcome.byte]

/-- A phase of the metering input as READ_PHASES returns it (R39, R181). -/
def PhaseState.bytes (p : PhaseState) : List Byte :=
  [p.holdover.byte] ++ intHalf p.power ++ natHalf p.voltage ++ natHalf p.current ++ natHalf p.step
    ++ [flagByte p.liveLow, flagByte p.liveHigh]

/-- The deferred pass and its trigger, two bytes (R176, R181). -/
def deferredBytes : Option PassCause → List Byte
  | none => [0, absentByte]
  | some .cadence => [1, absentByte]
  | some (.triggered t) => [2, byteOf t.val]

/-! ### The requests -/

/-- IDENTIFY (R173): the part name "UJ364" in ASCII, the two revisions and the port. -/
def serveIdentify (p : Port) (s : State) : Answer :=
  ⟨s, .ok, [0x55, 0x4A, 0x33, 0x36, 0x34, Config.hardwareRevision, Config.firmwareRevision, portName p]⟩

/-- The engine's part of READ_STATUS (R86). -/
def State.engineBytes (s : State) : List Byte :=
  let e := s.engine
  [e.state.byte, flagByte e.paused, flagByte e.active, byteOf e.windowCount, byteOf e.quietCount,
    triggerByte e.pendingTrigger] ++ deferredBytes e.deferred ++ [flagByte s.balancerOrderRemains]
    ++ optionalRecord 17 (e.report.map (·.bytes))

/-- The port counters of READ_STATUS, OP, SP and PP in that order (R173, R181); that each port's two stand together, the
rejected-frame counter first, is the model's reading (log entry 32). -/
def State.counterBytes (s : State) : List Byte :=
  natHalf s.ports.op.rejected ++ natHalf s.ports.op.overrun ++ natHalf s.ports.sp.rejected
    ++ natHalf s.ports.sp.overrun ++ natHalf s.ports.pp.rejected ++ natHalf s.ports.pp.overrun

/-- READ_STATUS (R173, R86, R152). -/
def serveReadStatus (p : Port) (s : State) : Answer :=
  ⟨s, .ok, wordBytes s.partTime ++ s.engineBytes
    ++ optionalRecord 9 ((s.context .first).map (s.contextBytes .first))
    ++ optionalRecord 9 ((s.context .second).map (s.contextBytes .second))
    ++ [s.hold.byte, (s.alarms.get p).byte, (s.settings.masks.get p).byte, s.liveLevels.byte,
      flagByte s.bus.surveyRunning, flagByte s.saving.isSome, flagByte s.restartDeferred] ++ s.counterBytes⟩

/-- READ_PHASES (R39). -/
def serveReadPhases (s : State) : Answer :=
  let m := s.metering
  ⟨s, .ok, [m.status.byte, flagByte m.lost, m.lastSequence, byteOf m.gapCount] ++ natHalf m.unbalance
    ++ m.phases.p1.bytes ++ m.phases.p2.bytes ++ m.phases.p3.bytes⟩

/-- READ_CONNECTION (R1, R125, R150, R173). -/
def serveReadConnection (n : Byte) (s : State) : Answer :=
  match readConn n with
  | none => s.refuse .badConnection
  | some c => ⟨s, .ok, s.recordBytes c ++ optionalRecord 7 ((s.conn c).lastReport.map reportBytes)⟩

/-- READ_TABLE: the records of the start connection and the three after it that exist (R173). -/
def serveReadTable (n : Byte) (s : State) : Answer :=
  match readConn n with
  | none => s.refuse .badConnection
  | some c =>
    let cs := (allConns.drop c.val).take 4
    ⟨s, .ok, byteOf cs.length :: cs.flatMap s.recordBytes⟩

/-- READ_QUEUE (R106). -/
def serveReadQueue (n : Byte) (s : State) : Answer :=
  if 15 < n.toNat then s.refuse .badValue
  else
    let listed := (s.queue.orders.drop n.toNat).take Config.queueListed
    ⟨s, .ok, [byteOf s.occupancy, byteOf s.queue.orders.length, byteOf s.unfiredContexts, byteOf listed.length]
      ++ listed.flatMap (·.bytes)⟩

/-- The records READ_LOG returns and its gap flag, by the position of `start` around the wrap (R184). -/
def MoveLog.read (l : MoveLog) (start : Word) (count : Nat) : List LogRecord × Bool :=
  let oldest := l.nextSequence - BitVec.ofNat 32 l.records.length
  let ahead := (start - oldest).toNat
  if ahead < l.records.length then ((l.records.drop ahead).take count, false)
  else if start = l.nextSequence then ([], false)
  else if (oldest - start).toNat ≤ 2 ^ 31 then (l.records.take count, true)
  else ([], false)

/-- READ_LOG (R184). -/
def serveReadLog (start : Word) (count : Byte) (s : State) : Answer :=
  if count.toNat < 1 ∨ 8 < count.toNat then s.refuse .badValue
  else
    let r := s.log.read start count.toNat
    ⟨s, .ok, [flagByte r.2, byteOf r.1.length]
      ++ wordBytes (match r.1 with | [] => 0 | x :: _ => x.sequence) ++ r.1.flatMap (·.bytes)⟩

/-- A trigger entry as READ_SETTING returns it (R81, R181). -/
def State.triggerBytes (s : State) (t : TriggerId) : List Byte :=
  let cfg := s.settings.triggers.get t
  let run := s.engine.triggers.get t
  [flagByte cfg.enabled, phaseSetByte cfg.phases, cfg.quantity.byte, cfg.comparison.byte] ++ intWord cfg.threshold
    ++ [byteOf cfg.persistence, byteOf run.matchCount, flagByte run.latched]

/-- READ_SETTING: items 0 to 28 are numeric settings, 128 to 135 trigger entries (R172). -/
def serveReadSetting (item : Byte) (s : State) : Answer :=
  match SettingId.ofNumber item.toNat with
  | some id => ⟨s, .ok, item :: natWord (s.setting id)⟩
  | none =>
    if h : 128 ≤ item.toNat ∧ item.toNat < 136 then
      ⟨s, .ok, item :: s.triggerBytes ⟨item.toNat - 128, by omega⟩⟩
    else s.refuse .badValue

end Sys2Proof.Machine
end

