-- ==== Sys2Proof/Machine/Holds.lean ====
section
/-!
DEFINITION. The requests of hold and pin control (chapter 8), of the balance engine's pause (R75), of the fault
clearing (R151), of the survey (R118) and of part time (R186).
-/

namespace Sys2Proof.Machine

/-! ### The hold set (R154 to R157) -/

/-- A port's membership of the hold set; SP has none (R154). -/
def HoldSet.put (v : HoldSet) (p : Port) (b : Bool) : HoldSet :=
  match p with
  | .op => { v with op := b } | .pp => { v with pp := b } | .sp => v

/-- The hold set goes from empty to non-empty: the engine, then the contexts, then HOLD_CHANGED (R156). -/
def State.holdBegins (s : State) : State := (s.reviewStopping.reachContexts.raise .holdChanged).finish

/-- The hold set goes from non-empty to empty: HOLD_CHANGED, then the engine, then a dispatch choice (R157). -/
def State.holdEnds (s : State) : State := (s.raise .holdChanged).reviewStopping.finish

/-- HOLD (R154, R156). -/
def serveHold (p : Port) (s : State) : Answer :=
  let s₁ := s.withHold (s.hold.put p true)
  let s₂ := if s.hold.nonempty = false ∧ s₁.hold.nonempty then s₁.holdBegins else s₁
  ⟨s₂, .ok, [s₂.hold.byte]⟩

/-- RELEASE (R155, R157). -/
def serveRelease (p : Port) (s : State) : Answer :=
  let s₁ := s.withHold (s.hold.put p false)
  let s₂ := if s.hold.nonempty ∧ s₁.hold.nonempty = false then s₁.holdEnds else s₁
  ⟨s₂, .ok, [s₂.hold.byte]⟩

/-! ### Pin sets (R159, R160) -/

def State.setPin (s : State) (c : ConnId) (p : Port) (b : Bool) : State :=
  s.modConn c fun x => { x with pins := x.pins.put p b }

/-- PIN (R159): a member that joins withdraws the connection's queued balancer order (R99). -/
def servePin (p : Port) (n : Byte) (s : State) : Answer :=
  match readConn n with
  | none => s.refuse .badConnection
  | some c =>
    if s.used c = false then s.refuse .badConnection
    else if (s.conn c).pins.has p then ⟨s, .ok, [(s.conn c).pins.byte]⟩
    else
      let s₁ := ((s.setPin c p true).removeBalancer c .withdrawn).finish
      ⟨s₁, .ok, [(s₁.conn c).pins.byte]⟩

/-- UNPIN (R160): a member that leaves is followed by a dispatch choice. -/
def serveUnpin (p : Port) (n : Byte) (s : State) : Answer :=
  match readConn n with
  | none => s.refuse .badConnection
  | some c =>
    if (s.conn c).pins.has p then
      let s₁ := (s.setPin c p false).finish
      ⟨s₁, .ok, [(s₁.conn c).pins.byte]⟩
    else ⟨s, .ok, [(s.conn c).pins.byte]⟩

/-- The connections whose pin set holds a port. -/
def State.pinnedBy (s : State) (p : Port) : List ConnId := allConns.filter fun c => (s.conn c).pins.has p

/-- UNPIN_ALL (R160): every set at once, then one dispatch choice. -/
def serveUnpinAll (p : Port) (s : State) : Answer :=
  let n := (s.pinnedBy p).length
  if n = 0 then ⟨s, .ok, [0]⟩
  else ⟨(s.mapConns fun _ x => { x with pins := x.pins.put p false }).finish, .ok, [byteOf n]⟩

/-! ### Alarm sets and masks (R163, R164) -/

/-- CLEAR_ALARMS (R163): the named conditions leave the port's set, but level conditions whose cause is live. -/
def serveClearAlarms (p : Port) (named : Byte) (s : State) : Answer :=
  let s₁ := (s.withAlarms (s.alarms.set p ((s.alarms.get p).clear (AlarmSet.ofByte named) s.liveLevels))).setLines
  ⟨s₁, .ok, [(s₁.alarms.get p).byte]⟩

/-- SET_ALARM_MASK (R164): accepted during a save too. -/
def serveSetAlarmMask (p : Port) (mask : Byte) (s : State) : Answer :=
  let s₁ := (s.withSettings { s.settings with masks := s.settings.masks.set p (AlarmSet.ofByte mask) }).setLines
  ⟨s₁, .ok, [(s₁.settings.masks.get p).byte]⟩

/-! ### Pause, fault clearing, survey, time -/

/-- PAUSE_BALANCER (R75). -/
def servePause (s : State) : Answer :=
  if s.engine.paused then ⟨s, .ok, []⟩
  else ⟨(s.withEngine { s.engine with paused := true }).reviewStopping, .ok, []⟩

/-- RESUME_BALANCER (R75, R74). -/
def serveResume (s : State) : Answer :=
  if s.engine.paused then ⟨(s.withEngine { s.engine with paused := false }).reviewStopping, .ok, []⟩ else ⟨s, .ok, []⟩

/-- The last poll report allows a fault to be cleared: present, a closed phase, no contact fault (R151). -/
def Connection.clearable (x : Connection) : Bool :=
  match x.lastReport with
  | some r => r.closedPhase.isSome && !r.contactFault
  | none => false

/-- CLEAR_FAULT (R151). -/
def serveClearFault (n : Byte) (s : State) : Answer :=
  match readConn n with
  | none => s.refuse .badConnection
  | some c =>
    let x := s.conn c
    if x.motion ≠ .faulted then ⟨s, .ok, []⟩
    else if x.clearable then ⟨s.setConn c { x with motion := .idle, faultCause := none }, .ok, []⟩
    else s.refuse .notReady

/-- SURVEY (R118). -/
def serveSurvey (s : State) : Answer :=
  if s.bus.surveyRunning then s.refuse .busy
  else ⟨s.startRound.restartSurveyTimer.arbitrate, .accepted, []⟩

/-- The day number (R185). -/
def dayNumber (t : Word) : Nat := t.toNat / 86400

/-- The day-boundary event: transfers today is 0 for every connection (R13). -/
def State.clearToday (s : State) : State := s.mapConns fun _ x => { x with transfersToday := 0 }

/-- Part time takes a new value, with the day-boundary event where the day number changes (R185, R186). -/
def State.setPartTime (s : State) (t : Word) : State :=
  if dayNumber t = dayNumber s.partTime then s.withPartTime t else (s.withPartTime t).clearToday

/-- SET_TIME (R186): a day-boundary event is followed by a dispatch choice (R185). -/
def serveSetTime (t : Word) (s : State) : Answer :=
  let s₁ := s.setPartTime t
  let s₂ := if dayNumber t = dayNumber s.partTime then s₁ else s₁.finish
  ⟨s₂, .ok, wordBytes s₂.partTime⟩

end Sys2Proof.Machine
end

