-- ==== Sys2Proof/Machine/Orders.lean ====
section
/-!
DEFINITION. The order requests MOVE, CANCEL and REPRIORITIZE (chapter 5).
-/

namespace Sys2Proof.Machine

/-- The remaining life a MOVE's lifetime gives: 0 takes the setting, any other value is clamped to 10..3600 s (R94). -/
def State.grantedLife (s : State) (lifetime : Nat) : Nat :=
  if lifetime = 0 then s.setting .masterLifetime else max 10 (min lifetime 3600)

/-- Whether a MOVE's lifetime is clamped (R94). -/
def lifetimeClamped (lifetime : Nat) : Bool := lifetime != 0 && (decide (lifetime < 10) || decide (3600 < lifetime))

/-- The queued balancer order a full queue evicts: the lowest priority, then the highest connection number (R93). -/
def State.evictee (s : State) : Option Order :=
  match s.queue.orders.filter fun o => o.source == .balancer with
  | [] => none
  | o :: rest =>
    some (rest.foldl (fun worst p =>
      if p.priority < worst.priority ∨ (p.priority = worst.priority ∧ worst.conn < p.conn) then p else worst) o)

/-- A MOVE is admitted and answered: how, the evicted connection, and the life given (R94). The dispatch choice ends
its event. -/
def State.admitMove (s : State) (p : Port) (c : ConnId) (target : Phase) (priority lifetime : Nat) (how : Byte)
    (evicted : Byte) : Answer :=
  let life := s.grantedLife lifetime
  ⟨(s.enqueue c target (sourceOf p) priority life none none).finish,
    if lifetimeClamped lifetime then .okClamped else .ok, [how, evicted] ++ natHalf life⟩

/-- A queued order is replaced by a MOVE for its connection: it ends REPLACED, its connection staying QUEUED (R92). -/
def State.replaceOrder (s : State) (o : Order) : State := (s.dropOrder o .replaced).orderEnded o.source

/-- A queued order gives way to a MOVE of a priority, by R92. -/
def Order.yieldsTo (o : Order) (priority : Nat) : Bool := o.source == .balancer || decide (o.priority ≤ priority)

/-- Checks 9 and 10 of R91 and the admission (R92 to R94). -/
def State.placeMove (s : State) (p : Port) (c : ConnId) (target : Phase) (priority lifetime : Nat) : Answer :=
  match s.queuedOrder c with
  | some o =>
    if o.yieldsTo priority then (s.replaceOrder o).admitMove p c target priority lifetime 1 absentByte
    else s.refuse .busy
  | none =>
    if s.occupancy < Config.queueRoom then s.admitMove p c target priority lifetime 0 absentByte
    else
      match s.evictee with
      | some e => (s.removeQueued e.conn .evicted).admitMove p c target priority lifetime 2 (byteOf e.conn.val)
      | none => s.refuse .queueFull

/-- Checks 2 to 8 of R91, for a connection and a target that name one; none when all pass. -/
def State.moveRefusal (s : State) (p : Port) (c : ConnId) (target : Phase) (priority : Nat) : Option Status :=
  let x := s.conn c
  if (s.config c).kind ≠ .movable then some .notMovable
  else if (s.config c).allowed.get target = false ∨ 15 < priority then some .badValue
  else if x.recordedPhase = some target then some .samePhase
  else if x.presence.lost then some .notPresent
  else if x.motion = .faulted then some .faulted
  else if x.motion.inFlight then some .inTransfer
  else if x.pins.otherThan p then some .pinned
  else none

/-- MOVE (R91 to R94). -/
def serveMove (p : Port) (n target priority : Byte) (lifetime : Half) (s : State) : Answer :=
  match readConn n with
  | none => s.refuse .badConnection
  | some c =>
    if (s.config c).kind ≠ .movable then s.refuse .notMovable
    else
      match readPhase target with
      | none => s.refuse .badValue
      | some t =>
        match s.moveRefusal p c t priority.toNat with
        | some st => s.refuse st
        | none => s.placeMove p c t priority.toNat lifetime.toNat

/-- CANCEL (R98). -/
def serveCancel (n : Byte) (s : State) : Answer :=
  match readConn n with
  | none => s.refuse .badConnection
  | some c =>
    match s.queuedOrder c with
    | some o => ⟨(s.removeQueued c .cancelled).finish, .ok, [1, o.source.byte]⟩
    | none => if (s.conn c).motion.inFlight then s.refuse .inTransfer else ⟨s, .ok, [0, absentByte]⟩

/-- A queued order's priority replaced, its place and every other field kept (R102). -/
def State.setPriority (s : State) (c : ConnId) (priority : Nat) : State :=
  s.withQueue { s.queue with
    orders := s.queue.orders.map fun o => if o.conn = c then { o with priority := priority } else o }

/-- REPRIORITIZE (R102). -/
def serveReprioritize (n priority : Byte) (s : State) : Answer :=
  match readConn n with
  | none => s.refuse .badConnection
  | some c =>
    if 15 < priority.toNat then s.refuse .badValue
    else
      match s.queuedOrder c with
      | some _ => ⟨(s.setPriority c priority.toNat).finish, .ok, []⟩
      | none => if (s.conn c).motion.inFlight then s.refuse .inTransfer else s.refuse .notReady

end Sys2Proof.Machine
end

