-- ==== Sys2Proof/Machine/Writing.lean ====
section
/-!
DEFINITION. The requests that write settings (R172, R19 to R21, R82), save them (R189) and restart the part (R191).
-/

namespace Sys2Proof.Machine

/-! ### WRITE_SETTING (R172, R71, R133) -/

/-- A value brought into a setting's own form: clamped to its range, and the dead interval rounded down to a multiple
of 10 ms (R172, R133); none when a list does not hold it. -/
def SettingId.fit (id : SettingId) (value : Int) : Option Nat :=
  match id.values with
  | .list values => values.find? fun n => (n : Int) == value
  | .range low high =>
    let n := (clampInt low high value).toNat
    some (if id = .deadInterval then n - n % 10 else n)

/-- The working settings after a value that fits is stored, and the value stored: U_stop is kept below U_start (R71). -/
def Settings.store (st : Settings) (id : SettingId) (n : Nat) : Settings × Nat :=
  let uStart := st.numeric.get SettingId.uStart.number
  let uStop := st.numeric.get SettingId.uStop.number
  match id with
  | .uStop => if uStart ≤ n then (st.setNumeric .uStop (uStart - 1), uStart - 1) else (st.setNumeric .uStop n, n)
  | .uStart =>
    if n ≤ uStop then ((st.setNumeric .uStart n).setNumeric .uStop (n - 1), n) else (st.setNumeric .uStart n, n)
  | _ => (st.setNumeric id n, n)

/-- Whether storing changes more than the written value: U_stop lowered by a write of U_start (R71). -/
def Settings.lowersStop (st : Settings) (id : SettingId) (n : Nat) : Bool :=
  id == .uStart && decide (n ≤ st.numeric.get SettingId.uStop.number)

/-- What a write of a setting sets off at once: the OFF condition (R72), or a dispatch choice (R103). -/
def State.settingWritten (s : State) (id : SettingId) : State :=
  if id = .balancerEnable then s.reviewStopping else if id = .dailyBudget then s.finish else s

/-- WRITE_SETTING (R172). -/
def serveWriteSetting (n : Byte) (value : Word) (s : State) : Answer :=
  match SettingId.ofNumber n.toNat with
  | none => s.refuse .badValue
  | some id =>
    match id.fit value.toInt with
    | none => s.refuse .badValue
    | some v =>
      if s.saving.isSome then s.refuse .busy
      else
        let r := s.settings.store id v
        let clamped := (r.2 : Int) != value.toInt || s.settings.lowersStop id v
        ⟨(s.withSettings r.1).settingWritten id, if clamped then .okClamped else .ok, natWord r.2⟩

/-! ### WRITE_CONNECTION (R19 to R21) -/

/-- The number of phases in a set. -/
def phaseCount (v : PhaseSet) : Nat :=
  (if v.p1 then 1 else 0) + (if v.p2 then 1 else 0) + (if v.p3 then 1 else 0)

/-- A connection put back to the start of its identification (R20, R125). -/
def Connection.reidentify (x : Connection) : Connection :=
  { x with presence := .absent, lapseCount := 0, beforeLapse := none, arrivalHold := 0, recordedPhase := none,
           lastReport := none, directSample := false }

/-- The further effects of a change of kind (R20). -/
def Connection.rekind (x : Connection) (old new : Kind) (settle : Nat) : Connection :=
  if new = .unused then
    { x with pins := PinSet.empty, motion := .idle, faultCause := none, settle := 0, load := 0 }
  else if old = .unused then { x with settle := settle, load := 0 }
  else if old ≠ new then { x with settle := settle }
  else x

/-- An accepted configuration write (R20, R21): a change of kind or serial, or any write in MISMATCH, resets the
identification; a change of the allowed phases alone touches no run-time field. -/
def State.writeConfig (s : State) (c : ConnId) (cfg : ConnConfig) : State :=
  let old := s.config c
  let x := s.conn c
  let s₁ := s.withSettings { s.settings with conns := s.settings.conns.set c cfg }
  if old.kind ≠ cfg.kind ∨ old.expectedSerial ≠ cfg.expectedSerial ∨ x.presence = .mismatch then
    s₁.setConn c (x.reidentify.rekind old.kind cfg.kind (s.setting .settleInterval))
  else s₁

/-- The configuration that WRITE_CONNECTION's bytes name, when checks 2 to 4 of R19 pass. -/
def readConfig (kind allowed : Byte) (serial : Word) : Option ConnConfig :=
  match Kind.ofByte kind, readPhaseSet allowed with
  | some k, some v =>
    if phaseCount v = 0 ∨ (k = .movable ∧ phaseCount v < 2) then none else some ⟨k, v, serial⟩
  | _, _ => none

/-- WRITE_CONNECTION (R19). -/
def serveWriteConnection (n kind allowed : Byte) (serial : Word) (s : State) : Answer :=
  match readConn n with
  | none => s.refuse .badConnection
  | some c =>
    match readConfig kind allowed serial with
    | none => s.refuse .badValue
    | some cfg =>
      if (s.conn c).motion = .queued ∨ (s.conn c).motion.inFlight then s.refuse .busy
      else if s.saving.isSome then s.refuse .busy
      else ⟨s.writeConfig c cfg, .ok, []⟩

/-! ### WRITE_TRIGGER (R82) -/

/-- The configuration that WRITE_TRIGGER's bytes name, clamped, when checks 2 to 4 of R82 pass. -/
def readTrigger (enabled phases quantity comparison : Byte) (threshold : Word) (persistence : Byte) :
    Option TriggerConfig :=
  match Quantity.ofByte quantity, Comparison.ofByte comparison, readPhaseSet phases with
  | some q, some cmp, some v =>
    if phaseCount v = 0 ∧ q ≠ .unbalance then none
    else some ⟨readFlag enabled, v, q, cmp, clampInt q.thresholdLow q.thresholdHigh threshold.toInt,
      max 1 (min persistence.toNat 15)⟩
  | _, _, _ => none

/-- An accepted write of a trigger entry: its configuration stored, its match count 0 and its latch clear, and the
pending trigger discarded when it is the entry (R82). -/
def State.writeTriggerEntry (s : State) (t : TriggerId) (cfg : TriggerConfig) : State :=
  (s.withSettings { s.settings with triggers := s.settings.triggers.set t cfg }).withEngine
    { s.engine with
      triggers := s.engine.triggers.set t ⟨0, false⟩
      pendingTrigger := if s.engine.pendingTrigger = some t then none else s.engine.pendingTrigger }

/-- WRITE_TRIGGER (R82). -/
def serveWriteTrigger (n enabled phases quantity comparison : Byte) (threshold : Word) (persistence : Byte)
    (s : State) : Answer :=
  if h : n.toNat < 8 then
    match readTrigger enabled phases quantity comparison threshold persistence with
    | none => s.refuse .badValue
    | some cfg =>
      if s.saving.isSome then s.refuse .busy
      else
        let clamped := cfg.threshold != threshold.toInt || cfg.persistence != persistence.toNat
        ⟨s.writeTriggerEntry ⟨n.toNat, h⟩ cfg, if clamped then .okClamped else .ok, []⟩
  else s.refuse .badValue

/-! ### SAVE_SETTINGS and RESTART (R189, R191) -/

/-- SAVE_SETTINGS (R189): the copy is taken and its writing begins. -/
def serveSaveSettings (s : State) : Answer :=
  if s.saving.isSome then s.refuse .busy else ⟨s.withSaving (some s.settings), .accepted, []⟩

/-- RESTART (R191, R149): the flag is set and the unfired contexts are disarmed. The restart itself takes effect once
its own ACCEPTED is in transmission (R175), in `takeRequest`. -/
def serveRestart (s : State) : Answer :=
  if s.restartDeferred then s.refuse .busy else ⟨(s.withRestartDeferred true).reachContexts, .accepted, []⟩

end Sys2Proof.Machine
end

