-- ==== Sys2Proof/Machine/Ports.lean ====
section
/-!
DEFINITION. The master ports (chapter 9): taking a request and answering it, what becomes of a good frame, and
reception byte by byte.
-/

namespace Sys2Proof.Machine

/-! ### Taking a request (R169) -/

def State.port (s : State) (p : Port) : PortState := s.ports.get p

def State.setPort (s : State) (p : Port) (x : PortState) : State := s.withPorts (s.ports.set p x)

/-- A response's payload: the command code with its top bit set, the status, the data (R169). -/
def responsePayload (code : Byte) (st : Status) (data : List Byte) : List Byte := (code ||| 0x80) :: st.byte :: data

/-- A response is formed and its transmission begins (R168, R169). -/
def State.respond (s : State) (p : Port) (code : Byte) (st : Status) (data : List Byte) : State :=
  s.setPort p { s.port p with response := some (responsePayload code st data) }

/-- The command's own checks and its effect (check 4 of R169); the parameters are those of R180. A list of another
length than the command's does not come here, and is answered BAD_LENGTH. -/
def serve (c : Command) (p : Port) (params : List Byte) (s : State) : Answer :=
  match c, params with
  | .identify, [] => serveIdentify p s
  | .readStatus, [] => serveReadStatus p s
  | .readPhases, [] => serveReadPhases s
  | .readConnection, [n] => serveReadConnection n s
  | .readTable, [n] => serveReadTable n s
  | .readQueue, [n] => serveReadQueue n s
  | .readLog, [a, b, c, d, count] => serveReadLog (readWord a b c d) count s
  | .readSetting, [item] => serveReadSetting item s
  | .move, [n, target, priority, high, low] => serveMove p n target priority (readHalf high low) s
  | .cancel, [n] => serveCancel n s
  | .reprioritize, [n, priority] => serveReprioritize n priority s
  | .pin, [n] => servePin p n s
  | .unpin, [n] => serveUnpin p n s
  | .unpinAll, [] => serveUnpinAll p s
  | .hold, [] => serveHold p s
  | .release, [] => serveRelease p s
  | .pauseBalancer, [] => servePause s
  | .resumeBalancer, [] => serveResume s
  | .clearFault, [n] => serveClearFault n s
  | .survey, [] => serveSurvey s
  | .clearAlarms, [named] => serveClearAlarms p named s
  | .setAlarmMask, [mask] => serveSetAlarmMask p mask s
  | .writeSetting, [n, a, b, c, d] => serveWriteSetting n (readWord a b c d) s
  | .writeConnection, [n, kind, allowed, a, b, c, d] => serveWriteConnection n kind allowed (readWord a b c d) s
  | .writeTrigger, [n, enabled, phases, quantity, comparison, a, b, c, d, persistence] =>
    serveWriteTrigger n enabled phases quantity comparison (readWord a b c d) persistence s
  | .saveSettings, [] => serveSaveSettings s
  | .restart, [] => serveRestart s
  | .setTime, [a, b, c, d] => serveSetTime (readWord a b c d) s
  | _, _ => s.refuse .badLength

/-- What follows a response in the event of its request: a RESTART that nothing defers takes effect (R191, R175). -/
def State.afterResponse (s : State) (c : Command) (st : Status) : State :=
  if c = .restart ∧ st = .accepted then s.finishTransfer else s

/-- A request is taken, checked and answered (R169). -/
def State.takeRequest (s : State) (p : Port) (code : Byte) (params : List Byte) : State :=
  match Command.ofCode code with
  | none => s.respond p code .unknownCommand []
  | some c =>
    if c.permitted p = false then s.respond p code .notPermitted []
    else if params.length ≠ c.paramBytes then s.respond p code .badLength []
    else
      let a := serve c p params s
      (a.state.respond p code a.status a.data).afterResponse c a.status

/-! ### A good frame (R168) -/

/-- A good frame completes: its request is taken at once, buffered, or dropped as an overrun (R168). -/
def State.goodFrame (s : State) (p : Port) (payload : List Byte) : State :=
  let x := s.port p
  match x.response, x.buffered with
  | none, _ =>
    match payload with
    | code :: params => s.takeRequest p code params
    | [] => s
  | some _, none => s.setPort p { x with buffered := some payload }
  | some _, some _ => s.setPort p { x with overrun := saturatingInc 65535 x.overrun }

/-- A frame is dropped and counted as rejected (R167). -/
def State.rejectFrame (s : State) (p : Port) : State :=
  s.setPort p { s.port p with rejected := saturatingInc 65535 (s.port p).rejected }

/-- A response's last byte leaves: a reloaded baud rate is taken up (R174), and a buffered frame's request is taken in
the same event (R168). -/
def State.responseLeaves (s : State) (p : Port) : State :=
  let x := s.port p
  match x.response with
  | none => s
  | some _ =>
    let y := { x with response := none, buffered := none, baud := x.baudNext.getD x.baud, baudNext := none }
    match x.buffered with
    | some (code :: params) => (s.setPort p y).takeRequest p code params
    | _ => s.setPort p y

/-! ### Reception (R167) -/

/-- One byte on a master port. -/
def State.portByte (p : Port) (s : State) (b : Byte) : State :=
  let r := rxByte (s.port p).rx b
  let s₁ := s.setPort p { s.port p with rx := r.1 }
  match r.2 with
  | .none => s₁
  | .rejected => s₁.rejectFrame p
  | .good payload => s₁.goodFrame p payload

def State.portBytes (s : State) (p : Port) (bs : List Byte) : State := bs.foldl (State.portByte p) s

/-- More than 50 ms without a byte: a frame under assembly is dropped and counted as rejected (R167). -/
def State.portGap (s : State) (p : Port) : State :=
  if (s.port p).rx.isSome then (s.setPort p { s.port p with rx := none }).rejectFrame p else s

/-- A command's good frame completes on a port that was taking it in: the port waits for a start byte again, and the
frame is handed on (R167, R168). -/
def State.commandFrame (s : State) (p : Port) (c : Command) (params : List Byte) : State :=
  (s.setPort p { s.port p with rx := none }).goodFrame p (c.code :: params)

end Sys2Proof.Machine
end

