-- ==== Sys2Proof/Machine/RequestEvents.lean ====
section
/-!
DEFINITION. The meaning of every command that arrives on a master port (chapter 9). Each request row is the good frame
of one command, received on one port; what R168 and R169 do with it is `State.commandFrame`. A part without supply
does nothing (R189, log entry 4).
-/

namespace Sys2Proof.Machine

/-- What a command does while supply is applied; without supply, nothing (log entry 4). -/
def State.whilePowered (s : State) (t : State) : Host.Outcome State Fault Refusal := .next (if s.powered then t else s)

/-! ### Framing (R167, R168) -/

/-- FRAME_GAP_TIMEOUT (R167): the bytes received, then more than 50 ms without one. -/
def execFrameGapTimeout (p : Port) (received : List Byte) (s : State) : Host.Outcome State Fault Refusal :=
  s.whilePowered ((s.portBytes p received).portGap p)

/-- REJECTED_FRAME (R167): the bytes received, of which the last completes a frame that is rejected. -/
def execRejectedFrame (p : Port) (received : List Byte) (s : State) : Host.Outcome State Fault Refusal :=
  s.whilePowered (s.portBytes p received)

/-- FRAME_BUFFERED (R168): a good frame of any payload completes; during a response it is buffered. -/
def execFrameBuffered (p : Port) (payload : List Byte) (s : State) : Host.Outcome State Fault Refusal :=
  s.whilePowered ((s.setPort p { s.port p with rx := none }).goodFrame p payload)

/-- RESPONSE_TRANSMITTED (R168, R174): the last byte of the response in transmission leaves the port. -/
def execResponseTransmitted (p : Port) (s : State) : Host.Outcome State Fault Refusal :=
  s.whilePowered (s.responseLeaves p)

/-- UNKNOWN_COMMAND (R169): a good frame whose code names no command. -/
def execUnknownCommand (p : Port) (code : Byte) (params : List Byte) (s : State) : Host.Outcome State Fault Refusal :=
  s.whilePowered ((s.setPort p { s.port p with rx := none }).goodFrame p (code :: params))

/-! ### Reading (R173, R39, R106, R172, R184) -/

/-- IDENTIFY (R173). -/
def execIdentify (p : Port) (params : List Byte) (s : State) : Host.Outcome State Fault Refusal :=
  s.whilePowered (s.commandFrame p .identify params)

/-- READ_STATUS (R173, R86, R152). -/
def execReadStatus (p : Port) (params : List Byte) (s : State) : Host.Outcome State Fault Refusal :=
  s.whilePowered (s.commandFrame p .readStatus params)

/-- READ_PHASES (R39). -/
def execReadPhases (p : Port) (params : List Byte) (s : State) : Host.Outcome State Fault Refusal :=
  s.whilePowered (s.commandFrame p .readPhases params)

/-- READ_CONNECTION (R1, R125, R150, R173). -/
def execReadConnection (p : Port) (params : List Byte) (s : State) : Host.Outcome State Fault Refusal :=
  s.whilePowered (s.commandFrame p .readConnection params)

/-- READ_TABLE (R173). -/
def execReadTable (p : Port) (params : List Byte) (s : State) : Host.Outcome State Fault Refusal :=
  s.whilePowered (s.commandFrame p .readTable params)

/-- READ_QUEUE (R106). -/
def execReadQueue (p : Port) (params : List Byte) (s : State) : Host.Outcome State Fault Refusal :=
  s.whilePowered (s.commandFrame p .readQueue params)

/-- READ_LOG (R184). -/
def execReadLog (p : Port) (params : List Byte) (s : State) : Host.Outcome State Fault Refusal :=
  s.whilePowered (s.commandFrame p .readLog params)

/-- READ_SETTING (R172). -/
def execReadSetting (p : Port) (params : List Byte) (s : State) : Host.Outcome State Fault Refusal :=
  s.whilePowered (s.commandFrame p .readSetting params)

/-! ### Orders (R91 to R95, R98, R102) -/

/-- MOVE (R91 to R94). -/
def execMove (p : Port) (params : List Byte) (s : State) : Host.Outcome State Fault Refusal :=
  s.whilePowered (s.commandFrame p .move params)

/-- CANCEL (R98). -/
def execCancel (p : Port) (params : List Byte) (s : State) : Host.Outcome State Fault Refusal :=
  s.whilePowered (s.commandFrame p .cancel params)

/-- REPRIORITIZE (R102). -/
def execReprioritize (p : Port) (params : List Byte) (s : State) : Host.Outcome State Fault Refusal :=
  s.whilePowered (s.commandFrame p .reprioritize params)

/-! ### Holds, pins and alarms (R154 to R165) -/

/-- PIN (R159). -/
def execPin (p : Port) (params : List Byte) (s : State) : Host.Outcome State Fault Refusal :=
  s.whilePowered (s.commandFrame p .pin params)

/-- UNPIN (R160). -/
def execUnpin (p : Port) (params : List Byte) (s : State) : Host.Outcome State Fault Refusal :=
  s.whilePowered (s.commandFrame p .unpin params)

/-- UNPIN_ALL (R160). -/
def execUnpinAll (p : Port) (params : List Byte) (s : State) : Host.Outcome State Fault Refusal :=
  s.whilePowered (s.commandFrame p .unpinAll params)

/-- HOLD (R154, R156). -/
def execHold (p : Port) (params : List Byte) (s : State) : Host.Outcome State Fault Refusal :=
  s.whilePowered (s.commandFrame p .hold params)

/-- RELEASE (R155, R157). -/
def execRelease (p : Port) (params : List Byte) (s : State) : Host.Outcome State Fault Refusal :=
  s.whilePowered (s.commandFrame p .release params)

/-- CLEAR_ALARMS (R163). -/
def execClearAlarms (p : Port) (params : List Byte) (s : State) : Host.Outcome State Fault Refusal :=
  s.whilePowered (s.commandFrame p .clearAlarms params)

/-- SET_ALARM_MASK (R164). -/
def execSetAlarmMask (p : Port) (params : List Byte) (s : State) : Host.Outcome State Fault Refusal :=
  s.whilePowered (s.commandFrame p .setAlarmMask params)

/-! ### Engine, faults, survey (R75, R151, R118) -/

/-- PAUSE_BALANCER (R75). -/
def execPauseBalancer (p : Port) (params : List Byte) (s : State) : Host.Outcome State Fault Refusal :=
  s.whilePowered (s.commandFrame p .pauseBalancer params)

/-- RESUME_BALANCER (R75). -/
def execResumeBalancer (p : Port) (params : List Byte) (s : State) : Host.Outcome State Fault Refusal :=
  s.whilePowered (s.commandFrame p .resumeBalancer params)

/-- CLEAR_FAULT (R151). -/
def execClearFault (p : Port) (params : List Byte) (s : State) : Host.Outcome State Fault Refusal :=
  s.whilePowered (s.commandFrame p .clearFault params)

/-- SURVEY (R118). -/
def execSurvey (p : Port) (params : List Byte) (s : State) : Host.Outcome State Fault Refusal :=
  s.whilePowered (s.commandFrame p .survey params)

/-! ### Settings, restart and time (R172, R19, R82, R189, R191, R186) -/

/-- WRITE_SETTING (R172). -/
def execWriteSetting (p : Port) (params : List Byte) (s : State) : Host.Outcome State Fault Refusal :=
  s.whilePowered (s.commandFrame p .writeSetting params)

/-- WRITE_CONNECTION (R19 to R21). -/
def execWriteConnection (p : Port) (params : List Byte) (s : State) : Host.Outcome State Fault Refusal :=
  s.whilePowered (s.commandFrame p .writeConnection params)

/-- WRITE_TRIGGER (R82). -/
def execWriteTrigger (p : Port) (params : List Byte) (s : State) : Host.Outcome State Fault Refusal :=
  s.whilePowered (s.commandFrame p .writeTrigger params)

/-- SAVE_SETTINGS (R189). -/
def execSaveSettings (p : Port) (params : List Byte) (s : State) : Host.Outcome State Fault Refusal :=
  s.whilePowered (s.commandFrame p .saveSettings params)

/-- RESTART (R191). -/
def execRestart (p : Port) (params : List Byte) (s : State) : Host.Outcome State Fault Refusal :=
  s.whilePowered (s.commandFrame p .restart params)

/-- SET_TIME (R186). -/
def execSetTime (p : Port) (params : List Byte) (s : State) : Host.Outcome State Fault Refusal :=
  s.whilePowered (s.commandFrame p .setTime params)

end Sys2Proof.Machine
end

