-- ==== Sys2Proof/Machine/BusEvents.lean ====
section
/-!
DEFINITION. The meaning of every command of the selector bus (chapters 6 and 7): replies, discarded frames, lapses and
the timers of the rotation and the survey. A reply row carries the address, the tag and the serial of its frame, and
is put to R113's test like any frame.
-/

namespace Sys2Proof.Machine

/-! ### A reply, a lapse -/

/-- Whether a frame's address, tag and kind answer the outstanding request (R113). -/
def Outstanding.answeredBy (o : Outstanding) (address tag : Byte) (r : Reply) : Bool :=
  busAddress o.conn == address && o.tag == tag && r.answers o.request

/-- What a reply that is no mismatch does to the connection record: a poll reply by section 6.6, a refusal with LOCAL by
R127 and R135. -/
def State.takeContent (s : State) (c : ConnId) : Reply → State
  | .poll report => s.takePoll c report
  | .armRefused .localSwitch => s.setLocal c true
  | .armRefused .busy => s
  | .armRefused .fault => s
  | .armed => s
  | .firing => s
  | .notArmed => s
  | .idle => s

/-- A good reply, in the order of R119: the presence machine, the connection record, the raiser, the removals; then
the last parts of the event. -/
def State.goodReply (s : State) (o : Outstanding) (serial : Word) (r : Reply) : State :=
  let s₁ := s.endOutstanding
  if s₁.used o.conn then
    let old := s₁.conn o.conn
    let seen := s₁.presenceReply o.conn serial
    let s₂ := if seen.2 then seen.1 else seen.1.takeContent o.conn r
    ((s₂.handReply o r seen.2).attachRemovals o.conn old).finishTransfer
  else (if o.raiser = .survey then s₁.endSurveyPoll else s₁).finishTransfer

/-- A complete bus frame with a matching CRC arrives: it is a good reply, or it is discarded (R113). The test alone decides:
that it takes even the late reply of a request abandoned at a restart, when the first request after the restart has its
address, tag and kind, is the model's reading (log entry 31). -/
def State.busReply (s : State) (address tag : Byte) (serial : Word) (r : Reply) : State :=
  match s.bus.outstanding with
  | none => s
  | some o => if o.answeredBy address tag r then s.goodReply o serial r else s

/-- The reply timeout of the outstanding request expires (R113, R119, R122). -/
def State.lapseOutstanding (s : State) (o : Outstanding) : State :=
  let s₁ := s.endOutstanding
  if s₁.used o.conn then
    let old := s₁.conn o.conn
    (((s₁.presenceLapse o.conn).handLapse o).attachRemovals o.conn old).finishTransfer
  else (if o.raiser = .survey then s₁.endSurveyPoll else s₁).finishTransfer

/-! ### The commands -/

/-- POLL_REPLY (R125). -/
def execPollReply (address tag : Byte) (serial : Word) (report : PollReport) (s : State) :
    Host.Outcome State Fault Refusal :=
  s.whilePowered (s.busReply address tag serial (.poll report))

/-- ARMED_REPLY (R134). -/
def execArmedReply (address tag : Byte) (serial : Word) (s : State) : Host.Outcome State Fault Refusal :=
  s.whilePowered (s.busReply address tag serial .armed)

/-- ARM_REFUSED (R135). -/
def execArmRefused (address tag : Byte) (serial : Word) (reason : ArmRefusal) (s : State) :
    Host.Outcome State Fault Refusal :=
  s.whilePowered (s.busReply address tag serial (.armRefused reason))

/-- FIRING_REPLY (R138). -/
def execFiringReply (address tag : Byte) (serial : Word) (s : State) : Host.Outcome State Fault Refusal :=
  s.whilePowered (s.busReply address tag serial .firing)

/-- NOT_ARMED_REPLY (R139). -/
def execNotArmedReply (address tag : Byte) (serial : Word) (s : State) : Host.Outcome State Fault Refusal :=
  s.whilePowered (s.busReply address tag serial .notArmed)

/-- IDLE_REPLY (R119, R128, R145). -/
def execIdleReply (address tag : Byte) (serial : Word) (s : State) : Host.Outcome State Fault Refusal :=
  s.whilePowered (s.busReply address tag serial .idle)

/-- BUS_FRAME_DISCARDED (R113): the bytes of a frame are put to the reply test; a frame that fails it has no effect. -/
def execBusFrameDiscarded (frame : List Byte) (s : State) : Host.Outcome State Fault Refusal :=
  match parseBusFrame frame with
  | none => .next s
  | some (address, tag, serial, r) => s.whilePowered (s.busReply address tag serial r)

/-- LAPSE (R113, R119): with no request outstanding no timeout runs, and nothing happens (log entry 5). -/
def execLapse (s : State) : Host.Outcome State Fault Refusal :=
  match s.bus.outstanding with
  | none => .next s
  | some o => s.whilePowered (s.lapseOutstanding o)

/-- ROUTINE_SPACING_EXPIRY (R116): the timer stops and the routine poll is raised; its grant restarts the timer. -/
def execRoutineSpacingExpiry (s : State) : Host.Outcome State Fault Refusal :=
  s.whilePowered (if s.bus.routineTimer.isSome then
    (s.withBus { s.bus with routineTimer := none, routineSlot := true }).arbitrate else s)

/-- SURVEY_TIMER_EXPIRY (R117): the rest of the survey count elapses at once (log entry 6). -/
def execSurveyTimerExpiry (s : State) : Host.Outcome State Fault Refusal := s.whilePowered s.expireSurveyTimer.arbitrate

end Sys2Proof.Machine
end

