-- ==== Sys2Proof/Machine/Balance.lean ====
section
/-!
DEFINITION. The balancing computation (chapter 3), as exact integer arithmetic over what a pass reads.
-/

namespace Sys2Proof.Machine

/-- The spread of three phase powers: the largest less the smallest (R43). -/
def spread (p : PerPhase Int) : Int := max p.p1 (max p.p2 p.p3) - min p.p1 (min p.p2 p.p3)

/-- The unbalance index of a spread: spread times 1000 divided by the rating, rounded down, clamped to 0..9999 (R44). -/
def unbalanceIndex (s : Int) (rating : Nat) : Nat := min (s.toNat * 1000 / rating) 9999

/-- What a pass reads once, at its start (R42, R47, R48). -/
structure PassInput where
  rating : Nat
  gainFloor : Nat
  minimumLoad : Nat
  liveLow : PerPhase Bool
  liveHigh : PerPhase Bool
  deriving DecidableEq, Repr

/-- An eligible connection as a pass reads it (R47). -/
structure Eligible where
  conn : ConnId
  load : Int
  source : Phase
  allowed : PhaseSet
  today : Nat
  deriving DecidableEq, Repr

/-- A candidate move (R49). -/
structure Candidate where
  elig : Eligible
  target : Phase
  deriving DecidableEq, Repr

/-- The working powers after a candidate move: the source phase loses the load, the target gains it (R50). -/
def Candidate.after (m : Candidate) (p : PerPhase Int) : PerPhase Int :=
  let q := p.set m.elig.source (p.get m.elig.source - m.elig.load)
  q.set m.target (q.get m.target + m.elig.load)

/-- The gain of a candidate over the working powers of its step (R51). -/
def Candidate.gain (m : Candidate) (p : PerPhase Int) : Int := spread p - spread (m.after p)

/-- The admissibility conditions of a candidate, together (R53 to R58). -/
def Candidate.admissible (m : Candidate) (i : PassInput) (p : PerPhase Int) (chosen : List ConnId) : Bool :=
  let l := m.elig.load
  decide ((i.gainFloor : Int) ≤ m.gain p)
    && decide (i.minimumLoad ≤ l.natAbs)
    && (decide (l ≤ 0) || (decide (p.get m.target + l ≤ i.rating) && !i.liveLow.get m.target))
    && (decide (0 ≤ l) || !i.liveHigh.get m.target)
    && !chosen.contains m.elig.conn

/-- A phase's number, by which the last tie rule goes. -/
def phaseNumber : Phase → Nat
  | .p1 => 1 | .p2 => 2 | .p3 => 3

/-- Whether one candidate is chosen before another: the larger gain, then the fewer transfers today, then the lower
connection number, then the lower target phase (R59, R60). -/
def Candidate.before (m n : Candidate) (p : PerPhase Int) : Bool :=
  if m.gain p ≠ n.gain p then decide (n.gain p < m.gain p)
  else if m.elig.today ≠ n.elig.today then decide (m.elig.today < n.elig.today)
  else if m.elig.conn ≠ n.elig.conn then decide (m.elig.conn < n.elig.conn)
  else decide (phaseNumber m.target < phaseNumber n.target)

/-- The candidates of a step: each eligible connection to each allowed phase other than its own (R49). -/
def candidates (es : List Eligible) : List Candidate :=
  es.flatMap fun e => (allPhases.filter fun b => e.allowed.get b && b != e.source).map fun b => ⟨e, b⟩

/-- The choice of a step among its admissible candidates (R59, R60). -/
def choose (i : PassInput) (es : List Eligible) (p : PerPhase Int) (chosen : List ConnId) : Option Candidate :=
  match (candidates es).filter fun m => m.admissible i p chosen with
  | [] => none
  | m :: rest => some (rest.foldl (fun best n => if n.before best p then n else best) m)

/-- An entry of a plan (R65). -/
structure PlanEntry where
  conn : ConnId
  source : Phase
  target : Phase
  gain : Int
  deriving DecidableEq, Repr

/-- The result of a search: its plan in the order chosen, and the final working powers. -/
structure SearchResult where
  plan : List PlanEntry
  powers : PerPhase Int
  deriving DecidableEq, Repr

/-- The repeated search, of at most the given number of steps (R61, R62). -/
def search (i : PassInput) (es : List Eligible) : Nat → PerPhase Int → List ConnId → SearchResult
  | 0, p, _ => ⟨[], p⟩
  | depth + 1, p, chosen =>
    match choose i es p chosen with
    | none => ⟨[], p⟩
    | some m =>
      let rest := search i es depth (m.after p) (m.elig.conn :: chosen)
      ⟨⟨m.elig.conn, m.elig.source, m.target, m.gain p⟩ :: rest.plan, rest.powers⟩

end Sys2Proof.Machine
end

