-- ==== Sys2Proof/Machine/Engine.lean ====
section
/-!
DEFINITION. The balance engine (chapter 4): the pass it runs, the trigger table, and its handling of an accepted
window.
-/

namespace Sys2Proof.Machine

/-! ### A pass (R45 to R47, R65 to R67, R79) -/

/-- What a pass reads of the settings and the phase flags (R42, R48). -/
def State.passInput (s : State) : PassInput where
  rating := s.setting .phaseRating
  gainFloor := s.setting .gainFloor
  minimumLoad := s.setting .minimumLoad
  liveLow := s.metering.phases.map (·.liveLow)
  liveHigh := s.metering.phases.map (·.liveHigh)

/-- A connection as a pass reads it, when it is eligible (R17, R47). -/
def State.eligible (s : State) (c : ConnId) : Option Eligible :=
  if s.eligibleForPass c then
    match (s.conn c).recordedPhase with
    | some a => some ⟨c, (s.conn c).load, a, (s.config c).allowed, (s.conn c).transfersToday⟩
    | none => none
  else none

/-- The plan's moves are offered one at a time; one that finds the queue full is dropped with every later one (R66,
R95). The count is of the orders admitted. -/
def State.offer (s : State) (trigger : Option TriggerId) : List PlanEntry → State × Nat
  | [] => (s, 0)
  | e :: rest =>
    if s.occupancy < Config.queueRoom then
      let r := (s.enqueue e.conn e.target .balancer 1 (s.setting .balancerLifetime) trigger (some e.gain.toNat)).offer
        trigger rest
      (r.1, r.2 + 1)
    else (s, 0)

/-- A pass: the search from the phase powers in use, its orders and its report; the engine goes to WAITING when an
order was admitted, and stays in WATCH otherwise (R46, R62, R66, R67, R79). -/
def State.runPass (s : State) (trigger : Option TriggerId) : State :=
  let i := s.passInput
  let powers := s.metering.phases.map (·.power)
  let es := allConns.filterMap s.eligible
  let depth := s.setting .planDepth
  let found := search i es depth powers []
  let r := s.offer trigger found.plan
  let report : PassReport :=
    { time := s.partTime, trigger := trigger,
      startSpread := (spread powers).toNat, startIndex := unbalanceIndex (spread powers) i.rating,
      eligible := es.length, chosen := found.plan.length, placed := r.2,
      ending := if found.plan.length = depth then .depthReached else .noAdmissible,
      finalSpread := (spread found.powers).toNat, finalIndex := unbalanceIndex (spread found.powers) i.rating }
  r.1.withEngine { r.1.engine with
    report := some report, active := decide (0 < r.2), windowCount := 0, deferred := none,
    state := if 0 < r.2 then .waiting else .watch }

/-! ### Due and deferred passes (R77, R78) -/

/-- Passes are deferred: a transfer is in flight or an order of priority 1 or more is queued (R78). -/
def State.passesDeferred (s : State) : Bool :=
  !s.inFlight.isEmpty || s.queue.orders.any fun o => decide (1 ≤ o.priority)

/-- The lower of two trigger numbers, where present. -/
def lowerTrigger : Option TriggerId → Option TriggerId → Option TriggerId
  | none, b => b
  | some a, none => some a
  | some a, some b => some (if a ≤ b then a else b)

/-- The trigger a deferred pass carries, if it is TRIGGERED. -/
def deferredTrigger : Option PassCause → Option TriggerId
  | some (.triggered t) => some t
  | _ => none

/-- A pass that falls due runs, or becomes the deferred pass; the window count returns to 0 (R77, R78, log entry 13). -/
def State.passDue (s : State) (trigger : Option TriggerId) : State :=
  if s.passesDeferred then
    s.withEngine { s.engine with
      windowCount := 0
      deferred := some (match trigger with | some t => .triggered t | none => .cadence) }
  else s.runPass trigger

/-- The start condition of a check (R77). -/
def State.startCondition (s : State) : Bool :=
  decide (s.setting .uStart ≤ s.metering.unbalance)
    || (s.engine.active && decide (s.setting .uStop < s.metering.unbalance))

/-- Stage 4 of a window in WATCH; `fired` is the lowest-numbered entry that fired in it (R77, R85). -/
def State.watchWindow (s : State) (fired : Option TriggerId) : State :=
  if fired.isSome || s.engine.deferred.isSome then s.passDue (lowerTrigger fired (deferredTrigger s.engine.deferred))
  else if s.setting .balanceInterval ≤ s.engine.windowCount + 1 then
    if s.startCondition then s.passDue none else s.withEngine { s.engine with windowCount := 0 }
  else s.withEngine { s.engine with windowCount := s.engine.windowCount + 1 }

/-! ### The trigger table (R83, R84) -/

/-- One value against a threshold; both comparisons are strict (R83). -/
def Comparison.holds (cmp : Comparison) (threshold value : Int) : Bool :=
  match cmp with
  | .above => decide (threshold < value)
  | .below => decide (value < threshold)

/-- The value a quantity compares for one phase (R81). -/
def Quantity.value (q : Quantity) (p : PhaseState) : Int :=
  match q with
  | .phasePower => p.power
  | .phaseCurrent => p.current
  | .phaseVoltage => p.voltage
  | .powerStep => p.step
  | .unbalance => 0

/-- The condition of an entry in a window: U for UNBALANCE, else some usable phase of its set (R83). -/
def TriggerConfig.holds (t : TriggerConfig) (m : Metering) : Bool :=
  match t.quantity with
  | .unbalance => t.comparison.holds t.threshold m.unbalance
  | q => allPhases.any fun p =>
      t.phases.get p && (m.phases.get p).holdover != .unusable
        && t.comparison.holds t.threshold (q.value (m.phases.get p))

/-- One entry's evaluation: its run-time fields after the window, and whether it fires (R84). -/
def evaluateTrigger (t : TriggerConfig) (r : TriggerRun) (m : Metering) : TriggerRun × Bool :=
  if t.enabled then
    if t.holds m then
      let count := saturatingInc 15 r.matchCount
      let fires := decide (t.persistence ≤ count) && !r.latched
      (⟨count, r.latched || fires⟩, fires)
    else (⟨0, false⟩, false)
  else (r, false)

/-- An entry's evaluation against the window the metering input holds. -/
def State.evaluate (s : State) (t : TriggerId) : TriggerRun × Bool :=
  evaluateTrigger (s.settings.triggers.get t) (s.engine.triggers.get t) s.metering

/-- Stage 3: the lowest-numbered entry that fires in this window, if any (R76, R85). -/
def State.firing (s : State) : Option TriggerId := allTriggers.find? fun t => (s.evaluate t).2

/-- Stage 3: every entry's run-time fields after the window (R84). -/
def State.evaluateAll (s : State) : State :=
  s.withEngine { s.engine with triggers := Vector.ofFn fun t => (s.evaluate t).1 }

/-! ### The accepted window (R76, R80) -/

/-- A firing in WAITING or QUIET becomes pending, unless a lower number is already held (R85). -/
def State.notePending (s : State) (fired : Option TriggerId) : State :=
  s.withEngine { s.engine with pendingTrigger := lowerTrigger s.engine.pendingTrigger fired }

/-- The quiet count has reached 0: the engine enters WATCH with the window count at the balance interval, and a
pending trigger's pass falls due (R80). -/
def State.enterWatch (s : State) : State :=
  let s₁ := s.withEngine { s.engine with
    state := .watch, quietCount := 0, windowCount := s.setting .balanceInterval, pendingTrigger := none }
  match s.engine.pendingTrigger with
  | some t => s₁.passDue (some t)
  | none => s₁

/-- The decrement of the quiet count by a window in QUIET (R80). -/
def State.countQuiet (s : State) : State :=
  if s.engine.quietCount ≤ 1 then s.enterWatch
  else s.withEngine { s.engine with quietCount := s.engine.quietCount - 1 }

/-- Stage 4 (R76): the state's work; `entered` says that stage 1 of this window took the engine to QUIET (R74). -/
def State.stateWork (s : State) (fired : Option TriggerId) (entered : Bool) : State :=
  match s.engine.state with
  | .watch => s.watchWindow fired
  | .waiting => s.notePending fired
  | .quiet => if entered then s.notePending fired else (s.notePending fired).countQuiet
  | .off => s
  | .starved => s
  | .held => s
  | .paused => s

/-- Stage 2 (R76): the active flag is cleared when U is at or below the stop threshold. -/
def State.reviewActive (s : State) : State :=
  if s.metering.unbalance ≤ s.setting .uStop then s.withEngine { s.engine with active := false } else s

/-- The engine's handling of an accepted window, in its four stages (R76). -/
def State.engineWindow (s : State) : State :=
  let s₁ := s.reviewStopping
  let s₂ := s₁.reviewActive
  s₂.evaluateAll.stateWork s₂.firing (!s.engine.state.running)

end Sys2Proof.Machine
end

