-- ==== Sys2Proof/Machine/Metering.lean ====
section
/-!
DEFINITION. The metering input (chapter 2): the acceptance of a window in its stages, staleness, and reception on the
metering line.
-/

namespace Sys2Proof.Machine

/-! ### One phase of an accepted window (R26, R31, R33, R35, R36) -/

/-- The settings of the phase-low and phase-high counting (R34). -/
structure DeglitchInput where
  low : Nat
  high : Nat
  hysteresis : Nat
  windows : Nat
  deriving DecidableEq, Repr

/-- The holdover state by the phase's valid flag (R31). -/
def Holdover.next (h : Holdover) (valid : Bool) : Holdover :=
  if valid then .inUse
  else
    match h with
    | .inUse => .held
    | .held => .unusable
    | .unusable => .unusable

/-- One deglitch count: `towards` says that this window counts towards changing the flag (R35, R36). -/
def deglitch (windows count : Nat) (flag towards : Bool) : Nat × Bool :=
  if towards then (if windows ≤ count + 1 then (0, !flag) else (count + 1, flag)) else (0, flag)

/-- Stages 1 and 4 for one phase: the clamped figures become the values in use when the phase is valid; a phase that
becomes UNUSABLE has its counters set to 0 (R26, R31). -/
def PhaseState.holdoverStage (p : PhaseState) (r : PhaseSample) : PhaseState :=
  let h := p.holdover.next r.valid
  if r.valid then
    { p with holdover := h, power := clampInt (-30000) 30000 r.power.toInt, voltage := min r.voltage.toNat 3000,
             current := min r.current.toNat 10000 }
  else if h = .unusable ∧ p.holdover ≠ .unusable then { p with holdover := h, lowCount := 0, highCount := 0 }
  else { p with holdover := h }

/-- Stage 5: the power step, over the phase as it stood before the window (R33). -/
def PhaseState.stepStage (p before : PhaseState) : PhaseState :=
  { p with step := if p.holdover = .inUse ∧ before.holdover ≠ .unusable then (p.power - before.power).natAbs else 0 }

/-- Stage 6: the phase-low and phase-high counting of a phase that is IN_USE or HELD (R35, R36). -/
def PhaseState.countStage (p : PhaseState) (d : DeglitchInput) : PhaseState :=
  if p.holdover = .unusable then p
  else
    let low := deglitch d.windows p.lowCount p.liveLow
      (if p.liveLow then decide (d.low + d.hysteresis ≤ p.voltage) else decide (p.voltage < d.low))
    let high := deglitch d.windows p.highCount p.liveHigh
      (if p.liveHigh then decide (p.voltage + d.hysteresis ≤ d.high) else decide (d.high < p.voltage))
    { p with lowCount := low.1, liveLow := low.2, highCount := high.1, liveHigh := high.2 }

/-- Stages 1, 4, 5 and 6 for one phase (R26). -/
def PhaseState.accept (d : DeglitchInput) (p : PhaseState) (r : PhaseSample) : PhaseState :=
  ((p.holdoverStage r).stepStage p).countStage d

def State.deglitchInput (s : State) : DeglitchInput :=
  ⟨s.setting .vLow, s.setting .vHigh, s.setting .voltageHysteresis, s.setting .deglitchWindows⟩

/-! ### The acceptance of a window (R26 to R30, R38, R40) -/

/-- Stage 2: whether the record adds to the gap count (R27). -/
def Metering.gaps (m : Metering) (r : WindowRecord) : Bool :=
  m.status == .current && r.sequence != m.lastSequence + 1

/-- Stages 1 to 7: the metering input after an accepted window (R26). -/
def State.meteringAfter (s : State) (r : WindowRecord) : Metering :=
  let m := s.metering
  let phases := m.phases.zipWith (PhaseState.accept s.deglitchInput) r.phases
  { m with
    status := .current
    lost := false
    staleTimer := some (3 * s.setting .windowLength)
    lastSequence := r.sequence
    gapCount := if m.gaps r then saturatingInc 255 m.gapCount else m.gapCount
    phases := phases
    unbalance := unbalanceIndex (spread (phases.map (·.power))) (s.setting .phaseRating) }

/-- The causes PHASE_LOW and PHASE_HIGH are raised while live (R37, R162). -/
def State.raisePhaseAlarms (s : State) : State :=
  (s.raiseIf (s.metering.phases.any (·.liveLow)) .phaseLow).raiseIf (s.metering.phases.any (·.liveHigh)) .phaseHigh

/-- An accepted window: the metering input's stages, the alarm causes, and the engine's handling; the dispatch
choice, the arbiter and the lines end the event (R26, R37, R40, R76). -/
def State.acceptWindow (s : State) (r : WindowRecord) : State :=
  ((s.withMetering (s.meteringAfter r)).raisePhaseAlarms.engineWindow).finish

/-! ### Staleness (R29) -/

/-- The metering input after the staleness timer's expiry (R29). -/
def Metering.expire (m : Metering) : Metering :=
  { m with
    status := .stale
    lost := true
    staleTimer := none
    phases := m.phases.map fun p => { p with holdover := .unusable, lowCount := 0, highCount := 0 } }

/-- The staleness timer's expiry, while it runs: METERING_LOST is live and the engine is STARVED (R29, R37, R72). -/
def State.expireStaleness (s : State) : State :=
  if s.metering.staleTimer.isSome then
    ((s.withMetering s.metering.expire).raise .meteringLost).reviewStopping.setLines
  else s

/-! ### Reception on the metering line (R25) -/

/-- One byte on the metering line; a record whose CRC matches is accepted, any other dropped without effect. -/
def State.meteringByte (s : State) (b : Byte) : State :=
  let r := meteringRxByte s.metering.rx b
  let s₁ := s.withMetering { s.metering with rx := r.1 }
  match r.2 with
  | some w => s₁.acceptWindow w
  | none => s₁

def State.meteringBytes (s : State) (bs : List Byte) : State := bs.foldl State.meteringByte s

/-- More than 50 ms without a byte: a partial record is dropped (R25). -/
def State.meteringGap (s : State) : State := s.withMetering { s.metering with rx := none }

end Sys2Proof.Machine
end

