-- ==== Sys2Proof/Machine/MeteringEvents.lean ====
section
/-!
DEFINITION. The meaning of the commands of the metering line and of the balance engine's quiet count (chapters 2, 4).
-/

namespace Sys2Proof.Machine

/-- ACCEPTED_WINDOW (R26, R40, R76): a good record completes. -/
def execAcceptedWindow (r : WindowRecord) (s : State) : Host.Outcome State Fault Refusal :=
  s.whilePowered ((s.withMetering { s.metering with rx := none }).acceptWindow r)

/-- QUIET_COUNT_EXPIRY (R80): what remains of the quiet count elapses, and the engine enters WATCH (log entry 7). -/
def execQuietCountExpiry (s : State) : Host.Outcome State Fault Refusal :=
  s.whilePowered (if s.engine.state = .quiet then s.enterWatch.finish else s)

/-- METERING_RECORD_DROPPED (R25): the bytes received, of which the last completes a record with a bad CRC. -/
def execMeteringRecordDropped (received : List Byte) (s : State) : Host.Outcome State Fault Refusal :=
  s.whilePowered (s.meteringBytes received)

/-- METERING_BYTE_GAP (R25): the bytes received, then more than 50 ms without one. -/
def execMeteringByteGap (received : List Byte) (s : State) : Host.Outcome State Fault Refusal :=
  s.whilePowered (s.meteringBytes received).meteringGap

/-- STALENESS_EXPIRY (R29). -/
def execStalenessExpiry (s : State) : Host.Outcome State Fault Refusal := s.whilePowered s.expireStaleness

end Sys2Proof.Machine
end

