-- ==== Sys2Proof/Machine/SupplyEvents.lean ====
section
/-!
DEFINITION. The meaning of the commands of supply and of the settings store (chapter 11).
-/

namespace Sys2Proof.Machine

/-- POWER_ON (R190): supply is applied, after a loss of supply if it stood (log entry 4). -/
def execPowerOn (s : State) : Host.Outcome State Fault Refusal := .next s.powerOn

/-- SUPPLY_LOST (R189): all operation ends; a save in progress leaves the image with a mismatching CRC. -/
def execSupplyLost (s : State) : Host.Outcome State Fault Refusal :=
  .next (if s.powered then ((s.withPowered false).withImage s.imageAfterLoss).withSaving none else s)

/-- SAVE_END (R189): the image holds the copy and is good, and the saving flag clears; a restart that only the save
deferred takes effect (R191). -/
def execSaveEnd (s : State) : Host.Outcome State Fault Refusal :=
  s.whilePowered (match s.saving with
    | none => s
    | some copy => ((s.withImage (some copy)).withSaving none).finishTransfer)

/-- RESTART_TAKES_EFFECT (R192), once nothing defers it (R191). -/
def execRestartTakesEffect (s : State) : Host.Outcome State Fault Refusal :=
  s.whilePowered (if s.restartDeferred && !s.restartHeld then s.restartEffect.arbitrate.setLines else s)

end Sys2Proof.Machine
end

