-- ==== Sys2Proof/Machine/TimeEvents.lean ====
section
/-!
DEFINITION. The meaning of the commands of time: the one-second event and the counts it drives, and the deadlines and
timers of the transfer contexts. The one-second event itself brings every second count to its end; the row of one
count's expiry is the elapse of what remains of that one count (log entry 6).
-/

namespace Sys2Proof.Machine

/-! ### The one-second event (R185) -/

/-- One second of a connection's settle and arrival hold; at the end of the hold ARRIVING becomes PRESENT (R11, R121). -/
def Connection.second (x : Connection) : Connection :=
  match x.presence with
  | .arriving =>
    { x with settle := x.settle - 1, arrivalHold := x.arrivalHold - 1,
             presence := if x.arrivalHold ≤ 1 then .present else .arriving }
  | .absent => { x with settle := x.settle - 1 }
  | .present => { x with settle := x.settle - 1 }
  | .lapsing => { x with settle := x.settle - 1 }
  | .mismatch => { x with settle := x.settle - 1 }

/-- The remaining life of every queued order is lowered by one, and the orders that reach 0 are removed EXPIRED, in
queue order (R97). -/
def State.ageOrders (s : State) : State :=
  let aged := s.queue.orders.map fun o => { o with life := o.life - 1 }
  (aged.filter fun o => o.life == 0).foldl (fun t o => t.removeQueued o.conn .expired)
    (s.withQueue { s.queue with orders := aged })

/-- The survey timer counts one second; at its end it expires (R117). -/
def State.surveySecond (s : State) : State :=
  if s.bus.surveyTimer ≤ 1 then s.expireSurveyTimer
  else s.withBus { s.bus with surveyTimer := s.bus.surveyTimer - 1 }

/-- ONE_SECOND_EVENT (R185, R11, R121, R97, R117). -/
def execOneSecondEvent (s : State) : Host.Outcome State Fault Refusal :=
  s.whilePowered ((((s.setPartTime (s.partTime + 1)).mapConns fun _ x => x.second).ageOrders.surveySecond).finish)

/-! ### The end of one count (R121, R11, R97) -/

/-- ARRIVAL_HOLD_EXPIRY (R121): what remains of an ARRIVING connection's hold elapses, and it is PRESENT. -/
def execArrivalHoldExpiry (c : ConnId) (s : State) : Host.Outcome State Fault Refusal :=
  s.whilePowered (if (s.conn c).presence = .arriving then
    (s.modConn c fun x => { x with arrivalHold := 0, presence := .present }).finish else s)

/-- SETTLE_EXPIRY (R11): what remains of a connection's settle elapses; a dispatch choice follows. -/
def execSettleExpiry (c : ConnId) (s : State) : Host.Outcome State Fault Refusal :=
  s.whilePowered (if 0 < (s.conn c).settle then (s.modConn c fun x => { x with settle := 0 }).finish else s)

/-- EXPIRED (R97): what remains of a queued order's life elapses, and it is removed EXPIRED. -/
def execExpired (c : ConnId) (s : State) : Host.Outcome State Fault Refusal :=
  s.whilePowered (if (s.queuedOrder c).isSome then (s.removeQueued c .expired).finish else s)

/-! ### Deadlines and timers of a context (R137, R138, R143) -/

/-- A context is ARMED and waiting for the fire slot (R131). -/
def State.waitsForSlot (s : State) (k : CtxId) (x : Context) : Bool :=
  x.state == .armed && s.transfers.fireSlot != some k

/-- ARM_DEADLINE_EXPIRY (R137): the order returns to the queue and a release disarm is raised. -/
def execArmDeadlineExpiry (k : CtxId) (s : State) : Host.Outcome State Fault Refusal :=
  s.whilePowered (match s.context k with
    | none => s
    | some x =>
      if s.waitsForSlot k x && x.armDeadline.isSome then
        ((s.returnOrder k x).raiseRelease x.order.conn x.dispatchNumber).finish
      else s)

/-- A request of the context is outstanding on the bus. -/
def State.requestOutstanding (s : State) (x : Context) : Bool :=
  match s.bus.outstanding with
  | some o => o.raiser == .context x.dispatchNumber
  | none => false

/-- A FIRED context's confirm timer expires: it restarts with 100 ms, and a confirm poll is raised unless one waits or
is outstanding (R138). -/
def State.confirmTick (s : State) (k : CtxId) (x : Context) : State :=
  let slot := if x.slot.isSome || s.requestOutstanding x then x.slot else some .confirm
  (s.setContext k (some { x with confirmTimer := some Config.confirmInterval, slot := slot })).arbitrate

/-- CONFIRM_TIMER_EXPIRY (R138). -/
def execConfirmTimerExpiry (k : CtxId) (s : State) : Host.Outcome State Fault Refusal :=
  s.whilePowered (match s.context k with
    | none => s
    | some x => if x.state == .fired && x.confirmTimer.isSome then s.confirmTick k x else s)

/-- CONFIRM_DEADLINE_EXPIRY (R143): the transfer ends UNCONFIRMED. -/
def execConfirmDeadlineExpiry (k : CtxId) (s : State) : Host.Outcome State Fault Refusal :=
  s.whilePowered (match s.context k with
    | none => s
    | some x =>
      if x.state == .fired && x.confirmDeadline.isSome then (s.endTransfer k x .unconfirmed false).finishTransfer
      else s)

end Sys2Proof.Machine
end

