-- ==== Sys2Proof/Machine/Dispatch.lean ====
section
/-!
DEFINITION. The meaning of each command, one arm per constructor of `Instr`.
-/

namespace Sys2Proof.Machine

open Host

def exec (i : Instr) (s : State) : Host.Outcome State Fault Refusal :=
  match i with
  | .powerOn => Sys2Proof.Machine.execPowerOn s
  | .oneSecondEvent => Sys2Proof.Machine.execOneSecondEvent s
  | .frameGapTimeout port received => Sys2Proof.Machine.execFrameGapTimeout port received s
  | .rejectedFrame port received => Sys2Proof.Machine.execRejectedFrame port received s
  | .frameBuffered port payload => Sys2Proof.Machine.execFrameBuffered port payload s
  | .responseTransmitted port => Sys2Proof.Machine.execResponseTransmitted port s
  | .identify port params => Sys2Proof.Machine.execIdentify port params s
  | .readStatus port params => Sys2Proof.Machine.execReadStatus port params s
  | .readPhases port params => Sys2Proof.Machine.execReadPhases port params s
  | .readConnection port params => Sys2Proof.Machine.execReadConnection port params s
  | .readTable port params => Sys2Proof.Machine.execReadTable port params s
  | .readQueue port params => Sys2Proof.Machine.execReadQueue port params s
  | .readLog port params => Sys2Proof.Machine.execReadLog port params s
  | .readSetting port params => Sys2Proof.Machine.execReadSetting port params s
  | .move port params => Sys2Proof.Machine.execMove port params s
  | .cancel port params => Sys2Proof.Machine.execCancel port params s
  | .reprioritize port params => Sys2Proof.Machine.execReprioritize port params s
  | .pin port params => Sys2Proof.Machine.execPin port params s
  | .unpin port params => Sys2Proof.Machine.execUnpin port params s
  | .unpinAll port params => Sys2Proof.Machine.execUnpinAll port params s
  | .hold port params => Sys2Proof.Machine.execHold port params s
  | .release port params => Sys2Proof.Machine.execRelease port params s
  | .pauseBalancer port params => Sys2Proof.Machine.execPauseBalancer port params s
  | .resumeBalancer port params => Sys2Proof.Machine.execResumeBalancer port params s
  | .clearFault port params => Sys2Proof.Machine.execClearFault port params s
  | .survey port params => Sys2Proof.Machine.execSurvey port params s
  | .clearAlarms port params => Sys2Proof.Machine.execClearAlarms port params s
  | .setAlarmMask port params => Sys2Proof.Machine.execSetAlarmMask port params s
  | .writeSetting port params => Sys2Proof.Machine.execWriteSetting port params s
  | .writeConnection port params => Sys2Proof.Machine.execWriteConnection port params s
  | .writeTrigger port params => Sys2Proof.Machine.execWriteTrigger port params s
  | .saveSettings port params => Sys2Proof.Machine.execSaveSettings port params s
  | .saveEnd => Sys2Proof.Machine.execSaveEnd s
  | .restart port params => Sys2Proof.Machine.execRestart port params s
  | .restartTakesEffect => Sys2Proof.Machine.execRestartTakesEffect s
  | .setTime port params => Sys2Proof.Machine.execSetTime port params s
  | .acceptedWindow record => Sys2Proof.Machine.execAcceptedWindow record s
  | .quietCountExpiry => Sys2Proof.Machine.execQuietCountExpiry s
  | .meteringRecordDropped received => Sys2Proof.Machine.execMeteringRecordDropped received s
  | .meteringByteGap received => Sys2Proof.Machine.execMeteringByteGap received s
  | .stalenessExpiry => Sys2Proof.Machine.execStalenessExpiry s
  | .pollReply address tag serial report => Sys2Proof.Machine.execPollReply address tag serial report s
  | .armedReply address tag serial => Sys2Proof.Machine.execArmedReply address tag serial s
  | .armRefused address tag serial reason => Sys2Proof.Machine.execArmRefused address tag serial reason s
  | .firingReply address tag serial => Sys2Proof.Machine.execFiringReply address tag serial s
  | .notArmedReply address tag serial => Sys2Proof.Machine.execNotArmedReply address tag serial s
  | .idleReply address tag serial => Sys2Proof.Machine.execIdleReply address tag serial s
  | .busFrameDiscarded frame => Sys2Proof.Machine.execBusFrameDiscarded frame s
  | .lapse => Sys2Proof.Machine.execLapse s
  | .routineSpacingExpiry => Sys2Proof.Machine.execRoutineSpacingExpiry s
  | .surveyTimerExpiry => Sys2Proof.Machine.execSurveyTimerExpiry s
  | .arrivalHoldExpiry conn => Sys2Proof.Machine.execArrivalHoldExpiry conn s
  | .settleExpiry conn => Sys2Proof.Machine.execSettleExpiry conn s
  | .expired conn => Sys2Proof.Machine.execExpired conn s
  | .armDeadlineExpiry ctx => Sys2Proof.Machine.execArmDeadlineExpiry ctx s
  | .confirmTimerExpiry ctx => Sys2Proof.Machine.execConfirmTimerExpiry ctx s
  | .confirmDeadlineExpiry ctx => Sys2Proof.Machine.execConfirmDeadlineExpiry ctx s
  | .unknownCommand port code params => Sys2Proof.Machine.execUnknownCommand port code params s
  | .supplyLost => Sys2Proof.Machine.execSupplyLost s

end Sys2Proof.Machine
end

