-- ==== Sys2Proof/Machine/SelectorUnit.lean ====
section
/-!
DEFINITION. What a selector unit guarantees (section 6.1), as a machine of its own beside the part: the units stand on
the bus, outside the UJ364, so no field of State holds them (log entry 25). The part's rules assume these obligations;
the part itself sees a unit only through its replies.
-/

namespace Sys2Proof.Machine

/-- What a unit has been armed with (R110, R132). -/
structure ArmedWith where
  target : Phase
  deadInterval : Nat
  armHold : Nat
  deriving DecidableEq, Repr

/-- A selector unit (R109). `underWay` is the original phase and the target of a transfer, from FIRE to its end (R111), or
of a hand change (R112). -/
structure SelectorUnit where
  serial : Word
  closed : Option Phase
  state : UnitState
  armed : Option ArmedWith
  underWay : Option (Option Phase × Phase)
  counter : Byte
  localEngaged : Bool
  contactFault : Bool
  overtemperature : Bool
  power : Half
  deriving DecidableEq, Repr

/-- A poll reply reports the unit as it stands (R109, R113). -/
def SelectorUnit.report (u : SelectorUnit) : PollReport :=
  ⟨u.closed, u.state, u.armed.map (·.target), u.power, u.localEngaged, u.contactFault, u.overtemperature, u.counter⟩

/-- ARM, by the table of R110. -/
def SelectorUnit.arm (u : SelectorUnit) (a : ArmedWith) : SelectorUnit × Reply :=
  match u.state with
  | .transferring => (u, .armRefused .busy)
  | .fault => (u, .armRefused .fault)
  | .steady => if u.localEngaged then (u, .armRefused .localSwitch) else ({ u with armed := some a, state := .armed }, .armed)
  | .armed => if u.localEngaged then (u, .armRefused .localSwitch) else ({ u with armed := some a }, .armed)

/-- DISARM, by the table of R110. -/
def SelectorUnit.disarm (u : SelectorUnit) : SelectorUnit × Reply :=
  match u.state with
  | .armed => ({ u with armed := none, state := .steady }, .idle)
  | .steady => ({ u with armed := none }, .idle)
  | .transferring => (u, .idle)
  | .fault => (u, .idle)

/-- FIRE (R111): only an ARMED unit fires. -/
def SelectorUnit.fire (u : SelectorUnit) : SelectorUnit × Reply :=
  match u.state, u.armed with
  | .armed, some a => ({ u with armed := none, state := .transferring, underWay := some (u.closed, a.target) }, .firing)
  | _, _ => (u, .notArmed)

/-- What the unit does at a request, and the kind of its reply (R109): one for every request, in every state. -/
def SelectorUnit.act (u : SelectorUnit) : BusRequest → SelectorUnit × Reply
  | .poll => (u, .poll u.report)
  | .arm target dead hold => u.arm ⟨target, dead, hold⟩
  | .fire => u.fire
  | .disarm => u.disarm

/-- The command that a unit's reply of a kind to a request is to the part: every reply carries the request's address and
tag and the unit's own serial (R109, R113). -/
def SelectorUnit.replyTo (u : SelectorUnit) (o : Outstanding) : Reply → Instr
  | .poll report => .pollReply (busAddress o.conn) o.tag u.serial report
  | .armed => .armedReply (busAddress o.conn) o.tag u.serial
  | .armRefused reason => .armRefused (busAddress o.conn) o.tag u.serial reason
  | .firing => .firingReply (busAddress o.conn) o.tag u.serial
  | .notArmed => .notArmedReply (busAddress o.conn) o.tag u.serial
  | .idle => .idleReply (busAddress o.conn) o.tag u.serial

/-- A unit handles a request addressed to it (R109 to R111): the unit after it, and its one reply as the part receives
it. -/
def SelectorUnit.handle (u : SelectorUnit) (o : Outstanding) : SelectorUnit × Instr :=
  ((u.act o.request).1, u.replyTo o (u.act o.request).2)

/-- Step 1 of a transfer: the present contact opens and the counter advances, even when none was closed (R111). -/
def SelectorUnit.openContact (u : SelectorUnit) : SelectorUnit := { u with closed := none, counter := u.counter + 1 }

/-- Steps 3 to 6 of a transfer or of a hand change, by which contacts prove closed (R111, R112). With no original phase
there is none to fall back to. -/
def SelectorUnit.closeContact (u : SelectorUnit) (targetProves originalProves : Bool) : SelectorUnit :=
  match u.state, u.underWay with
  | .transferring, some (original, target) =>
    if targetProves then { u with closed := some target, state := .steady, underWay := none }
    else
      match original, originalProves with
      | some p, true => { u with closed := some p, state := .steady, underWay := none, contactFault := true }
      | _, _ => { u with closed := none, state := .fault, underWay := none, contactFault := true }
  | _, _ => u

/-- The arm hold runs out, or the local switch disarms the unit (R110). -/
def SelectorUnit.dropArm (u : SelectorUnit) : SelectorUnit :=
  match u.state with
  | .armed => { u with armed := none, state := .steady }
  | .steady => u
  | .transferring => u
  | .fault => u

/-- The local switch is engaged (R110, R112). -/
def SelectorUnit.engageLocal (u : SelectorUnit) : SelectorUnit := { u.dropArm with localEngaged := true }

/-- The local switch is released: no contact changes (R112). -/
def SelectorUnit.releaseLocal (u : SelectorUnit) : SelectorUnit := { u with localEngaged := false }

/-- The phase is turned by hand while the switch is engaged (R112): the present contact opens as at step 1 of a transfer,
and the unit is TRANSFERRING until `closeContact` ends the change as it ends a transfer. -/
def SelectorUnit.handChange (u : SelectorUnit) (p : Phase) : SelectorUnit :=
  if u.localEngaged && u.state == .steady then
    { u with state := .transferring, underWay := some (u.closed, p) }.openContact
  else u

end Sys2Proof.Machine
end

