-- ==== Sys2Proof/Safety.lean ====
section
/-!
DEFINITION. What counts as a safe run.
-/

namespace Sys2Proof

/-- A command completes when its meaning gives a next state. -/
def Completes (i : Instr) (s : Machine.State) : Prop := ∃ t, Machine.exec i s = .next t

end Sys2Proof
end

