-- ==== Sys2Proof/Claims.lean ====
section
/-!
DEFINITION. The predicates that the statements for the provers share, written from the rules of spec/ in terms of the
fields of State; each names its rules.
-/

namespace Sys2Proof.Claims

open Sys2Proof.Machine

/-! ### The wire conventions of R176 and the CRC of R167 -/

/-- A two-byte field, high byte first. -/
def twoBytes (h : Half) : List Byte := [byteOf (h.toNat / 256), byteOf h.toNat]

/-- A four-byte field, high byte first. -/
def fourBytes (w : Word) : List Byte :=
  [byteOf (w.toNat / 16777216), byteOf (w.toNat / 65536), byteOf (w.toNat / 256), byteOf w.toNat]

/-- A number as a two-byte field. -/
def twoOf (n : Nat) : List Byte := twoBytes (BitVec.ofNat 16 n)

/-- A signed number as a two-byte field, two's complement. -/
def twoOfInt (n : Int) : List Byte := twoBytes (BitVec.ofInt 16 n)

/-- A number as a four-byte field. -/
def fourOf (n : Nat) : List Byte := fourBytes (BitVec.ofNat 32 n)

/-- A signed number as a four-byte field, two's complement. -/
def fourOfInt (n : Int) : List Byte := fourBytes (BitVec.ofInt 32 n)

/-- A received two-byte field, high byte first. -/
def fromTwo (high low : Byte) : Half := BitVec.ofNat 16 (high.toNat * 256 + low.toNat)

/-- A received four-byte field, high byte first. -/
def fromFour (a b c d : Byte) : Word :=
  BitVec.ofNat 32 (((a.toNat * 256 + b.toNat) * 256 + c.toNat) * 256 + d.toNat)

/-- A flag: 0 for clear, 1 for set. -/
def flagCode (b : Bool) : Byte := if b then 1 else 0

/-- A set: one bit per member, the first member in bit 0. -/
def setCode (members : List Bool) : Byte := byteOf (members.foldr (fun m n => 2 * n + m.toNat) 0)

def phasesCode (v : PhaseSet) : Byte := setCode [v.p1, v.p2, v.p3]

def pinsCode (v : PinSet) : Byte := setCode [v.op, v.sp, v.pp, v.localSwitch]

def holdCode (v : HoldSet) : Byte := setCode [v.op, false, v.pp]

def alarmsCode (v : AlarmSet) : Byte :=
  setCode [v.unitLost, v.unitMismatch, v.transferFault, v.meteringLost, v.phaseLow, v.phaseHigh, v.holdChanged,
    v.settingsDefaulted]

/-- The alarm conditions that a received set names. -/
def alarmsNamed (b : Byte) : AlarmSet where
  unitLost := b.getLsbD 0
  unitMismatch := b.getLsbD 1
  transferFault := b.getLsbD 2
  meteringLost := b.getLsbD 3
  phaseLow := b.getLsbD 4
  phaseHigh := b.getLsbD 5
  holdChanged := b.getLsbD 6
  settingsDefaulted := b.getLsbD 7

/-- A phase, 0 for none or UNKNOWN. -/
def phaseCode : Option Phase → Byte
  | none => 0 | some .p1 => 1 | some .p2 => 2 | some .p3 => 3

/-- The phase that a received byte names, if any. -/
def phaseNamed (b : Byte) : Option Phase :=
  if b = 1 then some .p1 else if b = 2 then some .p2 else if b = 3 then some .p3 else none

/-- An optional trigger number: absent is 0xFF. -/
def triggerCode : Option TriggerId → Byte
  | none => 0xFF | some i => byteOf i.val

def kindCode : Kind → Byte
  | .unused => 0 | .movable => 1 | .fixed => 2 | .threePhase => 3

def sourceCode : Source → Byte
  | .op => 0 | .sp => 1 | .balancer => 2 | .localSwitch => 3

def outcomeCode : LogOutcome → Byte
  | .completed => 0 | .fellBack => 1 | .faultOpen => 2 | .unconfirmed => 3 | .noReply => 4 | .refused => 5
  | .withdrawn => 6 | .expired => 7 | .cancelled => 8 | .replaced => 9 | .evicted => 10 | .superseded => 11
  | .notPresent => 12 | .observed => 13

def engineCode : EngineState → Byte
  | .off => 0 | .starved => 1 | .held => 2 | .paused => 3 | .watch => 4 | .waiting => 5 | .quiet => 6

def meteringCode : MeteringStatus → Byte
  | .current => 0 | .stale => 1

def holdoverCode : Holdover → Byte
  | .inUse => 0 | .held => 1 | .unusable => 2

def quantityCode : Quantity → Byte
  | .phasePower => 0 | .phaseCurrent => 1 | .phaseVoltage => 2 | .powerStep => 3 | .unbalance => 4

def comparisonCode : Comparison → Byte
  | .above => 0 | .below => 1

/-- The address of a connection's unit on the selector bus (R1). -/
def unitAddress (c : ConnId) : Byte := byteOf (c.val + 1)

/-- One message bit enters the CRC of R167: the register shifts left, and the polynomial 0x1021 is added when the bit that
leaves differs from the message bit. -/
def crcBit (crc : Half) (bit : Bool) : Half :=
  if crc.getLsbD 15 != bit then (crc <<< 1) ^^^ 0x1021 else crc <<< 1

/-- The bits of a byte, the highest first: the input is not reflected (R167). -/
def bitsOf (b : Byte) : List Bool :=
  [b.getLsbD 7, b.getLsbD 6, b.getLsbD 5, b.getLsbD 4, b.getLsbD 3, b.getLsbD 2, b.getLsbD 1, b.getLsbD 0]

/-- The CRC-16 of R167, bit by bit: the initial value is 0xFFFF, the output not reflected, the final XOR 0. -/
def crcOf (bytes : List Byte) : Half := (bytes.flatMap bitsOf).foldl crcBit 0xFFFF

/-- A master-port frame: start byte, length, payload, and the CRC over length and payload (R177). -/
def frameOf (payload : List Byte) : List Byte :=
  let body := byteOf payload.length :: payload
  0x5A :: (body ++ twoBytes (crcOf body))

/-- A row of the table of R188. -/
structure SettingRow where
  number : Nat
  values : SettingRange
  default : Nat
  deriving DecidableEq, Repr

/-- The baud rates of R174. -/
def baudRates : SettingRange := .list [9600, 19200, 38400, 57600, 115200]

/-- The table of R188; the dead interval's steps of 10 are R133's. -/
def settingRow : SettingId → SettingRow
  | .balancerEnable => ⟨0, .list [0, 1], 0⟩ | .windowLength => ⟨1, .range 1 60, 10⟩
  | .vLow => ⟨2, .range 1800 2200, 2070⟩ | .vHigh => ⟨3, .range 2400 2800, 2530⟩
  | .voltageHysteresis => ⟨4, .range 0 100, 20⟩ | .deglitchWindows => ⟨5, .range 1 8, 3⟩
  | .phaseRating => ⟨6, .range 1000 30000, 9200⟩ | .gainFloor => ⟨7, .range 1 5000, 50⟩
  | .minimumLoad => ⟨8, .range 0 2000, 20⟩ | .planDepth => ⟨9, .range 1 4, 2⟩
  | .balanceInterval => ⟨10, .range 1 60, 6⟩ | .uStart => ⟨11, .range 1 9999, 150⟩
  | .uStop => ⟨12, .range 0 9998, 80⟩ | .quietWindows => ⟨13, .range 1 10, 2⟩
  | .masterLifetime => ⟨14, .range 10 3600, 600⟩ | .balancerLifetime => ⟨15, .range 30 600, 120⟩
  | .smoothingShift => ⟨16, .range 0 4, 2⟩ | .settleInterval => ⟨17, .range 60 7200, 600⟩
  | .dailyBudget => ⟨18, .range 1 255, 4⟩ | .routineSpacing => ⟨19, .range 20 1000, 100⟩
  | .surveyInterval => ⟨20, .range 10 600, 60⟩ | .arrivalHold => ⟨21, .range 5 300, 30⟩
  | .lapseLimit => ⟨22, .range 2 8, 3⟩ | .deadInterval => ⟨23, .range 20 200, 40⟩
  | .armHold => ⟨24, .range 1 10, 3⟩ | .confirmTimeout => ⟨25, .range 500 5000, 2000⟩
  | .baudOp => ⟨26, baudRates, 19200⟩ | .baudSp => ⟨27, baudRates, 19200⟩ | .baudPp => ⟨28, baudRates, 19200⟩

/-- The range of a trigger threshold, by its quantity (R81). -/
def thresholdRange : Quantity → Int × Int
  | .phasePower => (-30000, 30000) | .phaseCurrent => (0, 10000) | .phaseVoltage => (0, 3000)
  | .powerStep => (0, 60000) | .unbalance => (0, 9999)


/-! ### What the statements about requests share -/

/-- The part runs and the port transmits no response: a good frame's request is taken at once (R168). -/
def Ready (s : State) (p : Port) : Prop := s.powered = true ∧ (s.ports.get p).response = none

/-- The port waits for a start byte again: a frame has just completed on it (R167). -/
def taken (s : State) (p : Port) : State := { s with ports := s.ports.set p { s.ports.get p with rx := none } }

/-- The state with a response begun on a port and nothing else changed (R169). -/
def answered (s : State) (p : Port) (code status : Byte) (data : List Byte) : State :=
  { s with ports := s.ports.set p { s.ports.get p with response := some (code :: status :: data) } }

/-- The response a port transmits in `t` for a request taken in `s`; the other ports are as they were, and so are the
port's counters, its buffer and its rate. -/
def Answers (s t : State) (p : Port) (code status : Byte) (data : List Byte) : Prop :=
  t.ports = s.ports.set p { s.ports.get p with rx := none, response := some (code :: status :: data) }

/-- A port whose good frame arrives while a response is in transmission (R168). -/
def heldBack (x : PortState) (payload : List Byte) : PortState :=
  match x.buffered with
  | none => { x with rx := none, buffered := some payload }
  | some _ => { x with rx := none, overrun := min (x.overrun + 1) 65535 }

/-- The ports a command is permitted from, by the table of R171. -/
def portsOf : Command → List Port
  | .identify => [.op, .sp, .pp] | .readStatus => [.op, .sp, .pp] | .readPhases => [.op, .sp, .pp]
  | .readConnection => [.op, .sp, .pp] | .readTable => [.op, .sp, .pp] | .readQueue => [.op, .sp, .pp]
  | .readLog => [.op, .sp, .pp] | .readSetting => [.op, .sp, .pp] | .move => [.op, .sp] | .cancel => [.op, .sp]
  | .reprioritize => [.op, .sp] | .pin => [.op, .sp, .pp] | .unpin => [.op, .sp, .pp] | .unpinAll => [.op, .sp, .pp]
  | .hold => [.op, .pp] | .release => [.op, .pp] | .pauseBalancer => [.op, .sp] | .resumeBalancer => [.op, .sp]
  | .clearFault => [.op, .sp] | .survey => [.op, .sp] | .clearAlarms => [.op, .sp, .pp]
  | .setAlarmMask => [.op, .sp, .pp] | .writeSetting => [.op, .sp] | .writeConnection => [.op, .sp]
  | .writeTrigger => [.op, .sp] | .saveSettings => [.op, .sp] | .restart => [.op, .sp] | .setTime => [.op]

/-- A command's code and the number of its parameter bytes, by the tables of R171 and R180. -/
def codeAndLength : Command → Byte × Nat
  | .identify => (0x01, 0) | .readStatus => (0x02, 0) | .readPhases => (0x03, 0) | .readConnection => (0x04, 1)
  | .readTable => (0x05, 1) | .readQueue => (0x06, 1) | .readLog => (0x07, 5) | .readSetting => (0x08, 1)
  | .move => (0x10, 5) | .cancel => (0x11, 1) | .reprioritize => (0x12, 2) | .pin => (0x18, 1) | .unpin => (0x19, 1)
  | .unpinAll => (0x1A, 0) | .hold => (0x20, 0) | .release => (0x21, 0) | .pauseBalancer => (0x28, 0)
  | .resumeBalancer => (0x29, 0) | .clearFault => (0x2A, 1) | .survey => (0x2B, 0) | .clearAlarms => (0x30, 1)
  | .setAlarmMask => (0x31, 1) | .writeSetting => (0x38, 5) | .writeConnection => (0x39, 7)
  | .writeTrigger => (0x3A, 10) | .saveSettings => (0x3B, 0) | .restart => (0x3C, 0) | .setTime => (0x40, 4)

/-- The row of a command's request. -/
def requestRow : Command → Port → List Byte → Instr
  | .identify => .identify | .readStatus => .readStatus | .readPhases => .readPhases
  | .readConnection => .readConnection | .readTable => .readTable | .readQueue => .readQueue | .readLog => .readLog
  | .readSetting => .readSetting | .move => .move | .cancel => .cancel | .reprioritize => .reprioritize | .pin => .pin
  | .unpin => .unpin | .unpinAll => .unpinAll | .hold => .hold | .release => .release
  | .pauseBalancer => .pauseBalancer | .resumeBalancer => .resumeBalancer | .clearFault => .clearFault
  | .survey => .survey | .clearAlarms => .clearAlarms | .setAlarmMask => .setAlarmMask
  | .writeSetting => .writeSetting | .writeConnection => .writeConnection | .writeTrigger => .writeTrigger
  | .saveSettings => .saveSettings | .restart => .restart | .setTime => .setTime

/-- A port with one frame more counted as rejected (R167). -/
def rejecting (s : State) (p : Port) : State :=
  { s with ports := s.ports.set p { s.ports.get p with rejected := min ((s.ports.get p).rejected + 1) 65535 } }

/-- Bytes that begin a frame after its start byte and do not complete it: none yet, or a length of 1 to 120 and fewer
than the payload and the CRC (R167). -/
def PartOfFrame : List Byte → Prop
  | [] => True
  | len :: rest => 1 ≤ len.toNat ∧ len.toNat ≤ 120 ∧ rest.length < len.toNat + 2

/-- The stored image as the next power-on finds it: a save that supply broke off leaves a bad one (R189). -/
def imageFound (s : State) : Option Settings := if s.saving.isSome then none else s.image

/-- The connections a survey round at a reset lists: those in use, in ascending number (R117, R129). -/
def usedConns (st : Settings) : List ConnId := (List.finRange 64).filter fun c => (st.conns.get c).kind != .unused

/-- The bus of a controller that has just been reset and has granted the bus to the first survey poll (R129, R117). -/
def busStarted (st : Settings) (b : Bus) : Prop :=
  b.disarmSlots = Vector.replicate 64 none ∧ b.position = none ∧ b.routineSlot = false
    ∧ b.routineTimer = some (st.numeric.get SettingId.routineSpacing.number)
    ∧ b.surveyTimer = st.numeric.get SettingId.surveyInterval.number
    ∧ match usedConns st with
      | [] => b.surveyRunning = false ∧ b.surveySlot = false ∧ b.surveyList = [] ∧ b.outstanding = none ∧ b.tag = 0
      | c :: rest =>
        b.surveyRunning = true ∧ b.surveySlot = !rest.isEmpty ∧ b.surveyList = rest
          ∧ b.outstanding = some ⟨c, 0, .poll, .survey⟩ ∧ b.tag = 1

/-- The metering input after a reset (R41). -/
def meteringStarted (st : Settings) (m : Metering) : Prop :=
  m.status = .stale ∧ m.lost = false ∧ m.staleTimer = some (3 * st.numeric.get SettingId.windowLength.number)
    ∧ m.lastSequence = 0 ∧ m.gapCount = 0 ∧ m.unbalance = 0 ∧ m.rx = none
    ∧ ∀ q, m.phases.get q = ⟨.unusable, 0, 0, 0, 0, 0, 0, false, false⟩

/-- The balance engine after a reset (R87, R88): OFF or STARVED, by the balancer enable. -/
def engineStarted (st : Settings) (e : Engine) : Prop :=
  e.state = (if st.numeric.get SettingId.balancerEnable.number = 0 then .off else .starved) ∧ e.paused = false
    ∧ e.active = false ∧ e.windowCount = 0 ∧ e.quietCount = 0 ∧ e.pendingTrigger = none ∧ e.deferred = none
    ∧ e.report = none ∧ ∀ i, e.triggers.get i = ⟨0, false⟩

/-- The settle remaining a reset gives a connection (R22, R23). -/
def settleStarted (st : Settings) (c : ConnId) : Nat :=
  if (st.conns.get c).kind = .unused then 0 else st.numeric.get SettingId.settleInterval.number

/-- What both resets give a connection record: all but motion, fault cause, transfers today and pin set
(R22, R23, R129). -/
def connStarted (st : Settings) (c : ConnId) (x : Connection) : Prop :=
  x.presence = .absent ∧ x.arrivalHold = 0 ∧ x.recordedPhase = none ∧ x.load = 0 ∧ x.settle = settleStarted st c
    ∧ x.lastSerial = 0 ∧ x.lapseCount = 0 ∧ x.beforeLapse = none ∧ x.identitySerial = 0 ∧ x.lastReport = none

/-- Each attention line is asserted exactly while its port's set and mask share a condition (R165). -/
def LinesFollow (s : State) : Prop :=
  ∀ p, s.attention.get p = true ↔ ∃ a, (s.alarms.get p).has a = true ∧ (s.settings.masks.get p).has a = true

/-! ### What the statements about events share -/

/-- The move log with one record more: it takes the next sequence number and the part time, and the oldest of 64 gives
way (R182, R183). -/
def logged (s : State) (c : ConnId) (fromPhase : Option Phase) (toPhase : Phase) (src : Source)
    (trigger : Option TriggerId) (gain : Option Nat) (outcome : LogOutcome) : MoveLog :=
  let rs := s.log.records
    ++ [⟨s.log.nextSequence, s.partTime, c, fromPhase, toPhase, src, trigger, gain, outcome⟩]
  ⟨rs.drop (rs.length - 64), s.log.nextSequence + 1⟩

/-- A connection's record replaced. -/
def withConn (s : State) (c : ConnId) (x : Connection) : State := { s with conns := s.conns.set c x }

/-- The orders in the queue and in the contexts. -/
def allOrders (s : State) : List Order := s.queue.orders ++ s.inFlight.map (·.2.order)

/-- The engine has been told of the end of an order: when it was the last of the engine's own, queued or in flight, a
WAITING engine enters QUIET with a full quiet count (R80). -/
def engineTold (s : State) (src : Source) : State :=
  if s.engine.state = .waiting ∧ src = .balancer ∧ (allOrders s).all (fun o => o.source != .balancer) = true then
    { s with engine := { s.engine with state := .quiet, quietCount := s.setting .quietWindows } }
  else s

/-- A queued order has left the queue without dispatch: taken out, logged, its connection IDLE, the engine told of its
end (effects 1 to 4 of R96). -/
def removed (s : State) (o : Order) (outcome : LogOutcome) : State :=
  engineTold
    { s with
      queue := { s.queue with orders := s.queue.orders.filter fun q => q.conn != o.conn }
      log := logged s o.conn (s.conn o.conn).recordedPhase o.target o.source o.trigger o.gain outcome
      conns := s.conns.set o.conn { s.conn o.conn with motion := .idle } } o.source

/-- At most one order for any connection is queued (R89). -/
def OneOrderEach (s : State) : Prop := (s.queue.orders.map (·.conn)).Nodup

/-- The last parts of an event have followed its own effect: a waiting context takes the free fire slot (R131), queued orders
are dispatched into free contexts (R103), the free bus is granted (R115), the lines are set (R165). What each part does
DispatchTakesTheHighest and ArbiterGrantsByClass state. The order of the parts is the model's reading (log entry 21). -/
def Tail (s t : State) : Prop := t = s.finish

/-- The last parts of an event that may end a transfer, a FIRE or a save have followed its own effect: those of `Tail`, and
after the dispatches a deferred restart that nothing holds any more takes effect (step 8 of R144, R191), as
RestartReloads states. -/
def TransferTail (s t : State) : Prop := t = s.finishTransfer

/-- A pin set holds a member other than a port (check 8 of R91). -/
def pinnedByOther (v : PinSet) (p : Port) : Bool :=
  (v.op && p != .op) || (v.sp && p != .sp) || (v.pp && p != .pp) || v.localSwitch

/-- Checks 2 to 10 of R91 in their order, each with whether it fails and the status of its failure. -/
def moveChecks (s : State) (p : Port) (c : ConnId) (target priority : Byte) : List (Bool × Byte) :=
  let x := s.conn c
  let allowed :=
    match phaseNamed target with | some q => (s.config c).allowed.get q | none => false
  [((s.config c).kind != .movable, 0x20),
   (!allowed || decide (15 < priority.toNat), 0x13),
   (x.recordedPhase.isSome && x.recordedPhase == phaseNamed target, 0x21),
   (x.presence == .absent || x.presence == .mismatch, 0x22),
   (x.motion == .faulted, 0x23),
   (x.motion == .arming || x.motion == .armed || x.motion == .fired, 0x24),
   (pinnedByOther x.pins p, 0x25),
   ((s.queue.orders.find? fun o => o.conn == c).any fun o =>
     o.source != .balancer && decide (priority.toNat < o.priority), 0x26),
   (!(s.queue.orders.any fun o => o.conn == c) && decide (16 ≤ s.queue.orders.length + s.unfiredContexts)
     && !(s.queue.orders.any fun o => o.source == .balancer), 0x27)]

/-- The life a MOVE's lifetime gives, and whether it was clamped (R94). -/
def moveLife (s : State) (lifetime : Nat) : Nat × Bool :=
  if lifetime = 0 then (s.setting .masterLifetime, false)
  else if lifetime < 10 then (10, true)
  else if 3600 < lifetime then (3600, true)
  else (lifetime, false)

/-- The order a MOVE places (R94, R90). -/
def movedOrder (s : State) (p : Port) (c : ConnId) (target : Phase) (priority life : Nat) : Order :=
  ⟨c, target, if p = .sp then .sp else .op, priority, s.partTime, s.queue.admissions, life, none, none⟩

/-- An order has joined the end of the queue and its connection is QUEUED (R90, R94). -/
def joined (s : State) (o : Order) : State :=
  { s with
    queue := ⟨s.queue.orders ++ [o], s.queue.admissions + 1⟩
    conns := s.conns.set o.conn { s.conn o.conn with motion := .queued } }

/-- A queued order has been replaced by a MOVE: taken out and logged, the engine told, its connection's motion kept
(R92). -/
def replaced (s : State) (o : Order) : State :=
  engineTold
    { s with
      queue := { s.queue with orders := s.queue.orders.filter fun q => q.conn != o.conn }
      log := logged s o.conn (s.conn o.conn).recordedPhase o.target o.source o.trigger o.gain .replaced } o.source

/-- The order a full queue evicts: of the queued balancer orders the one of lowest priority, and of those the one of
highest connection number (R93). -/
def Evicts (s : State) (e : Order) : Prop :=
  e ∈ s.queue.orders ∧ e.source = .balancer
    ∧ ∀ q ∈ s.queue.orders, q.source = .balancer →
      e.priority < q.priority ∨ e.priority = q.priority ∧ q.conn ≤ e.conn

/-- An order may be dispatched, the hold set and the contexts apart (R18, R104). -/
def Eligible (s : State) (o : Order) : Prop :=
  1 ≤ o.priority ∧ (s.conn o.conn).presence = .present ∧ (s.conn o.conn).settle = 0
    ∧ (∀ p : Port, (s.conn o.conn).pins.has p = true → o.source = .op ∧ p = .op ∨ o.source = .sp ∧ p = .sp)
    ∧ (s.conn o.conn).pins.localSwitch = false
    ∧ (o.source = .balancer → (s.conn o.conn).transfersToday < s.setting .dailyBudget)

/-- An order has moved from the queue into a free context, with its ARM raised; its connection is ARMING, and a disarm that
waited for it is withdrawn (R104, R128, R132). -/
def dispatched (s : State) (k : CtxId) (o : Order) : State :=
  let x : Context :=
    { order := o, sourcePhase := (s.conn o.conn).recordedPhase, dispatchNumber := s.transfers.nextDispatch,
      state := .arming, retries := 0, reArmUsed := false, fireRetried := false, armHoldSent := none,
      armDeadline := none, confirmDeadline := none, confirmTimer := none,
      counterAtDispatch := (s.conn o.conn).lastReport.map (·.counter), slot := some .arm }
  { s with
    transfers := { s.transfers.put k (some x) with nextDispatch := s.transfers.nextDispatch + 1 }
    queue := { s.queue with orders := s.queue.orders.filter fun q => q.conn != o.conn }
    conns := s.conns.set o.conn { s.conn o.conn with motion := .arming }
    bus := { s.bus with disarmSlots := s.bus.disarmSlots.set o.conn none } }

/-- An ARMED context has taken the fire slot: its arm deadline stops and its FIRE is raised (R131, R134). -/
def slotTaken (s : State) (k : CtxId) (x : Context) : State :=
  { s with transfers :=
    { s.transfers.put k (some { x with armDeadline := none, slot := some .fire }) with fireSlot := some k } }

/-- A hold or a restart deferral has reached a state: no context waits to be fired; those left are FIRED or have
their FIRE outstanding (R147, R149). -/
def OnlyFiredLeft (s t : State) : Prop :=
  ∀ k x, t.context k = some x → x.state = .fired ∨ s.fireOutstanding x = true

/-- The hold set with a port's membership set. -/
def holdWith (v : HoldSet) (p : Port) (b : Bool) : HoldSet :=
  match p with | .op => { v with op := b } | .pp => { v with pp := b } | .sp => v

/-- The state the engine shows by R72, if a stopping condition holds: the first of OFF, STARVED, HELD and PAUSED. -/
def stoppedAs (s : State) : Option EngineState :=
  if s.setting .balancerEnable = 0 then some .off
  else if s.metering.status = .stale ∨ s.metering.phases.p1.holdover = .unusable
      ∨ s.metering.phases.p2.holdover = .unusable ∨ s.metering.phases.p3.holdover = .unusable then some .starved
  else if s.hold.op = true ∨ s.hold.pp = true then some .held
  else if s.engine.paused = true then some .paused
  else none

/-- The engine's answer to its stopping conditions: it shows the first that holds, with its counts at 0 and its pending
trigger and deferred pass discarded when it was running (R73); with none, a stopped engine enters QUIET with a full
count (R74). -/
def engineReviewed (s : State) : Engine :=
  let running : Bool := s.engine.state == .watch || s.engine.state == .waiting || s.engine.state == .quiet
  match stoppedAs s with
  | some st =>
    if running then
      { s.engine with state := st, windowCount := 0, quietCount := 0, pendingTrigger := none, deferred := none }
    else { s.engine with state := st }
  | none => if running then s.engine else { s.engine with state := .quiet, quietCount := s.setting .quietWindows }

/-- The value a write of a numeric setting stores, or none when a list does not hold it: clamped to the range (R172), the
dead interval rounded down to a multiple of 10 (R133), U_stop kept below U_start (R71). -/
def storedValue (st : Settings) (id : SettingId) (value : Int) : Option Nat :=
  match (settingRow id).values with
  | .list vs => if 0 ≤ value ∧ value.toNat ∈ vs then some value.toNat else none
  | .range low high =>
    let n := (max (low : Int) (min (high : Int) value)).toNat
    some (if id = .deadInterval then n / 10 * 10
      else if id = .uStop then min n (st.numeric.get SettingId.uStart.number - 1) else n)

/-- The working settings after a value is stored: a lowered U_start lowers U_stop with it (R71). -/
def settingStored (st : Settings) (id : SettingId) (n : Nat) : Settings :=
  { st with numeric := Vector.ofFn fun j =>
      if j = id.number then n
      else if id = .uStart ∧ j = SettingId.uStop.number then min (st.numeric.get j) (n - 1)
      else st.numeric.get j }

/-- A connection record after an accepted configuration write, by R20 and R21. -/
def rewritten (x : Connection) (old new : ConnConfig) (settle : Nat) : Connection :=
  if old.kind = new.kind ∧ old.expectedSerial = new.expectedSerial ∧ x.presence ≠ .mismatch then x
  else
    let y : Connection :=
      { x with presence := .absent, lapseCount := 0, beforeLapse := none, arrivalHold := 0, recordedPhase := none,
               lastReport := none, directSample := false }
    if new.kind = .unused then
      { y with pins := ⟨false, false, false, false⟩, motion := .idle, faultCause := none, settle := 0, load := 0 }
    else if old.kind = .unused then { y with settle := settle, load := 0 }
    else if old.kind ≠ new.kind then { y with settle := settle }
    else y

/-- A deglitch counter and its flag after a window that counts towards changing the flag, or does not (R35, R36). -/
def counted (windows count : Nat) (flag towards : Bool) : Nat × Bool :=
  if towards = false then (0, flag) else if windows ≤ count + 1 then (0, !flag) else (count + 1, flag)

/-- A phase of the metering input after an accepted window, from the phase before it, its sample and the settings of
R34 (R26, R31, R33, R35, R36). -/
def phaseAfter (s : State) (x y : PhaseState) (r : PhaseSample) : Prop :=
  (if r.valid then
    y.holdover = .inUse ∧ y.power = max (-30000) (min 30000 r.power.toInt) ∧ y.voltage = min r.voltage.toNat 3000
      ∧ y.current = min r.current.toNat 10000
      ∧ y.step = (if x.holdover = .unusable then 0 else (y.power - x.power).natAbs)
  else
    y.holdover = (if x.holdover = .inUse then .held else .unusable) ∧ y.power = x.power ∧ y.voltage = x.voltage
      ∧ y.current = x.current ∧ y.step = 0)
  ∧ (if y.holdover = .unusable then
      y.liveLow = x.liveLow ∧ y.liveHigh = x.liveHigh
        ∧ (x.holdover ≠ .unusable → y.lowCount = 0 ∧ y.highCount = 0)
        ∧ (x.holdover = .unusable → y.lowCount = x.lowCount ∧ y.highCount = x.highCount)
    else
      (y.lowCount, y.liveLow) = counted (s.setting .deglitchWindows) x.lowCount x.liveLow
        (if x.liveLow then decide (s.setting .vLow + s.setting .voltageHysteresis ≤ y.voltage)
          else decide (y.voltage < s.setting .vLow))
      ∧ (y.highCount, y.liveHigh) = counted (s.setting .deglitchWindows) x.highCount x.liveHigh
        (if x.liveHigh then decide (y.voltage + s.setting .voltageHysteresis ≤ s.setting .vHigh)
          else decide (s.setting .vHigh < y.voltage)))

/-- The unbalance index of three phase powers (R43, R44). -/
def indexOf (powers : PerPhase Int) (rating : Nat) : Nat :=
  min ((max powers.p1 (max powers.p2 powers.p3) - min powers.p1 (min powers.p2 powers.p3)).toNat * 1000 / rating) 9999

/-- The connections a survey round lists: used, and ABSENT or MISMATCH (R117). -/
def surveyList (s : State) : List ConnId :=
  (List.finRange 64).filter fun c => (s.config c).kind != .unused
    && ((s.conn c).presence == .absent || (s.conn c).presence == .mismatch)

/-- The bus with a round started over a list; an empty list's round ends in the same event (R117). -/
def roundStarted (b : Bus) (list : List ConnId) : Bus :=
  { b with surveyList := list, surveyRunning := !list.isEmpty, surveySlot := !list.isEmpty }

/-- A restart is held: a context is FIRED or has its FIRE outstanding, or a save is in progress (R191). -/
def RestartHeld (s : State) : Prop :=
  s.saving.isSome = true ∨ ∃ k x, s.context k = some x ∧ (x.state = .fired ∨ s.fireOutstanding x = true)

/-- The move log after every queued order has been cancelled, in queue order: the old records are kept, as far as 64 leave
room, and one record is written for each order (R96, R108, R183). -/
def cancelledLog (s : State) : MoveLog :=
  (s.queue.orders.foldl (fun w o =>
    { w with log := logged w o.conn (s.conn o.conn).recordedPhase o.target o.source o.trigger o.gain .cancelled }) s).log

/-- What a restart leaves, from the state it takes effect in (R192): the image or the defaults loaded, every block at its
restart values, and what the rule says is kept. Every queued order is cancelled, and its connection is IDLE; the move log is
kept with the records of their ends. -/
def Restarted (s t : State) : Prop :=
  t.pending = s.pending ∧ t.powered = s.powered ∧ t.image = s.image ∧ t.saving = s.saving
    ∧ t.settings = s.image.getD Settings.defaults ∧ t.restartDeferred = false ∧ t.partTime = s.partTime
    ∧ t.hold = s.hold ∧ t.queue = ⟨[], 0⟩ ∧ t.transfers = ⟨none, none, none, 1⟩ ∧ meteringStarted t.settings t.metering
    ∧ engineStarted t.settings t.engine ∧ busStarted t.settings t.bus
    ∧ (∀ c, connStarted t.settings c (t.conn c) ∧ (t.conn c).transfersToday = (s.conn c).transfersToday
        ∧ (if (t.config c).kind = .unused then
            (t.conn c).pins = ⟨false, false, false, false⟩ ∧ (t.conn c).motion = .idle ∧ (t.conn c).faultCause = none
          else
            (t.conn c).pins = (s.conn c).pins
              ∧ (if (s.conn c).motion = .faulted ∧ s.queue.orders.all (fun o => o.conn != c) = true then
                  (t.conn c).motion = .faulted ∧ (t.conn c).faultCause = (s.conn c).faultCause
                else (t.conn c).motion = .idle ∧ (t.conn c).faultCause = none)))
    ∧ (∀ p a, (t.alarms.get p).has a = true ↔ (s.alarms.get p).has a = true ∨ a = .settingsDefaulted ∧ s.image = none)
    ∧ LinesFollow t
    ∧ t.log = cancelledLog s

/-- A port after a restart: its assembly, its buffer and its counters are cleared, a response in transmission is
completed at the rate in use, and the reloaded rate is taken up when it has left (R174, R175). -/
def portRestarted (st : Settings) (p : Port) (x y : PortState) : Prop :=
  y.rx = none ∧ y.buffered = none ∧ y.rejected = 0 ∧ y.overrun = 0 ∧ y.response = x.response
    ∧ if x.response.isSome then y.baud = x.baud ∧ y.baudNext = some (st.numeric.get (baudSetting p).number)
      else y.baud = st.numeric.get (baudSetting p).number ∧ y.baudNext = none

/-! ### What the statements about reading share: the records of R181, field by field -/

/-- The 23 bytes of a connection record (R24, R150, R161, R181); a THREE_PHASE connection has no recorded phase (R5). -/
def recordOf (config : ConnConfig) (c : ConnId) (x : Connection) : List Byte :=
  let presence : Byte :=
    match x.presence with | .absent => 0 | .arriving => 1 | .present => 2 | .lapsing => 3 | .mismatch => 4
  let motion : Byte :=
    match x.motion with | .idle => 0 | .queued => 1 | .arming => 2 | .armed => 3 | .fired => 4 | .faulted => 5
  let cause : Byte :=
    match x.faultCause with | none => 0xFF | some .openContact => 0 | some .unconfirmed => 1 | some .unitFault => 2
  let phase : Byte := if config.kind = .threePhase then 0xFF else phaseCode x.recordedPhase
  [byteOf c.val, kindCode config.kind, phasesCode config.allowed] ++ fourBytes config.expectedSerial
    ++ [presence] ++ twoOf x.arrivalHold ++ [motion, phase] ++ twoOfInt x.load ++ twoOf x.settle
    ++ [byteOf x.transfersToday, pinsCode x.pins] ++ fourBytes x.lastSerial ++ [cause]

/-- The seven bytes of a poll report (R178). The other bits of its flags byte are 0 (the model's choice, log entry 29). -/
def pollReportOf (r : PollReport) : List Byte :=
  let flag (b : Bool) (n : Nat) : Nat := if b then n else 0
  let unit : Byte := match r.unitState with | .steady => 0 | .armed => 1 | .transferring => 2 | .fault => 3
  [phaseCode r.closedPhase, unit, phaseCode r.armedTarget] ++ twoBytes r.power
    ++ [byteOf (flag r.localEngaged 1 + flag r.contactFault 2 + flag r.overtemperature 4), r.counter]

/-- The nine bytes of a context in flight (R152, R181). -/
def contextOf (s : State) (k : CtxId) (x : Context) : List Byte :=
  let state : Byte := match x.state with | .arming => 0 | .armed => 1 | .fired => 2
  [byteOf x.order.conn.val, phaseCode x.sourcePhase, phaseCode (some x.order.target), sourceCode x.order.source, state,
    if s.transfers.fireSlot = some k then 1 else 0, byteOf x.retries, flagCode x.reArmUsed, flagCode x.fireRetried]

/-- The 17 bytes of a pass report (R67, R181). -/
def passReportOf (r : PassReport) : List Byte :=
  let ending : Byte := match r.ending with | .depthReached => 0 | .noAdmissible => 1
  fourBytes r.time ++ [triggerCode r.trigger] ++ twoOf r.startSpread ++ twoOf r.startIndex
    ++ [byteOf r.eligible, byteOf r.chosen, byteOf r.placed, ending] ++ twoOf r.finalSpread ++ twoOf r.finalIndex

/-- The live level conditions as a byte (R37, R123, R150, R162, R176): a used connection in MISMATCH, a used connection
FAULTED with cause OPEN, metering lost, a live-low phase, a live-high phase. -/
def liveByte (s : State) : Byte :=
  let bit (b : Bool) (n : Nat) : Nat := if b then n else 0
  let used (test : Connection → Bool) : Bool :=
    (List.finRange 64).any fun c => (s.config c).kind != .unused && test (s.conn c)
  let phases := s.metering.phases
  byteOf (bit (used fun x => x.presence == .mismatch) 2
    + bit (used fun x => x.motion == .faulted && x.faultCause == some .openContact) 4 + bit s.metering.lost 8
    + bit (phases.p1.liveLow || phases.p2.liveLow || phases.p3.liveLow) 16
    + bit (phases.p1.liveHigh || phases.p2.liveHigh || phases.p3.liveHigh) 32)

/-! ### What the statements about the selector bus share -/

/-- The bytes of a reply on the selector bus, by the layouts of R178. -/
def replyFrame (address tag : Byte) (serial : Word) (r : Reply) : List Byte :=
  let content : List Byte :=
    match r with
    | .poll x => 0x81 :: (fourBytes serial ++ pollReportOf x)
    | .armed => 0x82 :: fourBytes serial
    | .armRefused .localSwitch => 0x83 :: fourBytes serial
    | .armRefused .busy => 0x84 :: fourBytes serial
    | .armRefused .fault => 0x85 :: fourBytes serial
    | .firing => 0x86 :: fourBytes serial
    | .notArmed => 0x87 :: fourBytes serial
    | .idle => 0x88 :: fourBytes serial
  let body := address :: tag :: content
  0xC3 :: (body ++ twoBytes (crcOf body))

/-- The outstanding request has ended, and a survey round with nothing left on its list with it (R113, R117). -/
def freed (s : State) (o : Outstanding) : State :=
  let complete : Bool := o.raiser == .survey && s.bus.surveyList.isEmpty
  { s with bus := { s.bus with
      outstanding := none
      surveyRunning := s.bus.surveyRunning && !complete
      surveySlot := s.bus.surveySlot && !complete } }

/-- A request that no transfer in flight raised, so that its outcome is handed to no context (R114, R130). -/
def RaisedByNoContext (s : State) (o : Outstanding) : Prop := ∀ n, o.raiser = .context n → s.contextNumbered n = none

/-- A request that a transfer in flight raised, for that transfer's connection (R114). -/
def RaisedBy (s : State) (o : Outstanding) (k : CtxId) (x : Context) : Prop :=
  o.raiser = .context x.dispatchNumber ∧ s.contextNumbered x.dispatchNumber = some (k, x) ∧ o.conn = x.order.conn

/-- The record of a connection after a good reply that the presence machine recognises (R120 to R122); none when the
reply is taken as a mismatch (R123). -/
def recognised (s : State) (c : ConnId) (serial : Word) : Option Connection :=
  let x := s.conn c
  let expected := (s.config c).expectedSerial
  let arrival := s.setting .arrivalHold
  match x.presence with
  | .absent =>
    if expected ≠ 0 ∧ expected ≠ serial then none
    else some { x with presence := .arriving, arrivalHold := arrival, identitySerial := serial, lapseCount := 0,
                       beforeLapse := none, lastSerial := serial, directSample := true }
  | .mismatch => none
  | .arriving => if serial = x.identitySerial then some { x with lastSerial := serial } else none
  | .present => if serial = x.identitySerial then some { x with lastSerial := serial } else none
  | .lapsing =>
    if serial ≠ x.identitySerial then none
    else if x.beforeLapse = some .present then
      some { x with presence := .present, lapseCount := 0, beforeLapse := none, lastSerial := serial }
    else some { x with presence := .arriving, arrivalHold := arrival, lapseCount := 0, beforeLapse := none,
                       lastSerial := serial }

/-- The state after a reply taken as a mismatch (R123): entry to MISMATCH raises UNIT_MISMATCH; a reply in MISMATCH writes
the serial, and a matching one takes the connection to ABSENT. -/
def estranged (s : State) (c : ConnId) (serial : Word) : State :=
  let x := s.conn c
  let expected := (s.config c).expectedSerial
  let matching : Word := if expected = 0 then x.identitySerial else expected
  if x.presence = .mismatch then
    withConn s c { x with lastSerial := serial, presence := if serial = matching then .absent else .mismatch }
  else
    { s with
      conns := s.conns.set c { x with
        presence := .mismatch, lapseCount := 0, beforeLapse := none, arrivalHold := 0, recordedPhase := none,
        lastSerial := serial }
      alarms := s.alarms.map fun v => { v with unitMismatch := true } }

/-- The load estimate after a power sample: the clamped sample itself for the first since ABSENT, else a step of the
difference over 2^k towards it, rounded towards zero (R7 to R9). -/
def loadAfter (s : State) (y : Connection) (sample : Int) : Int :=
  let v := max (-2000) (min 2000 sample)
  if y.directSample then v
  else max (-2000) (min 2000 (y.load + (v - y.load).tdiv (2 ^ s.setting .smoothingShift)))

/-- A poll reply writes the recorded phase: a MOVABLE or FIXED connection that is IDLE, QUEUED or FAULTED (R126). -/
def phaseWritten (s : State) (c : ConnId) (y : Connection) : Bool :=
  ((s.config c).kind == .movable || (s.config c).kind == .fixed)
    && (y.motion == .idle || y.motion == .queued || y.motion == .faulted)

/-- The recorded phase a poll reply leaves (R126). -/
def phaseAfterPoll (s : State) (c : ConnId) (y : Connection) (r : PollReport) : Option Phase :=
  if phaseWritten s c y then
    match r.closedPhase with
    | some p => some p
    | none => if r.unitState = .transferring then y.recordedPhase else none
  else y.recordedPhase

/-- The two phases of an observed local change, if a poll reply shows one (R126). -/
def handChange (s : State) (c : ConnId) (y : Connection) (r : PollReport) : Option (Phase × Phase) :=
  match y.recordedPhase, r.closedPhase with
  | some q, some p => if phaseWritten s c y && y.motion != .faulted && p != q then some (q, p) else none
  | _, _ => none

/-- What a recognised poll reply does to the connection record, the log, the engine's quiet count and the stray disarm
slot, from the record `y` that the presence machine left (R125 to R128). -/
def polled (s : State) (c : ConnId) (y : Connection) (r : PollReport) : State :=
  let hand := handChange s c y r
  let stray : Bool := r.unitState == .armed && !y.motion.inFlight && (s.bus.disarmSlots.get c).isNone
  { s with
    conns := s.conns.set c { y with
      lastReport := some r
      directSample := false
      load := loadAfter s y r.power.toInt
      recordedPhase := phaseAfterPoll s c y r
      pins := { y.pins with localSwitch := r.localEngaged }
      settle := if hand.isSome then s.setting .settleInterval else y.settle
      transfersToday := if hand.isSome then min (y.transfersToday + 1) 255 else y.transfersToday }
    log :=
      match hand with
      | some (q, p) => logged s c (some q) p .localSwitch none none .observed
      | none => s.log
    engine :=
      if hand.isSome ∧ s.engine.state = .quiet then { s.engine with quietCount := s.setting .quietWindows }
      else s.engine
    bus := { s.bus with
      disarmSlots := if stray then s.bus.disarmSlots.set c (some .stray) else s.bus.disarmSlots } }

/-- The removal that the move queue attaches to the changes of a connection that stood as `old`: NOT_PRESENT for a
balancer order at an entry to ABSENT or MISMATCH, SUPERSEDED for an order whose target the phase has become, WITHDRAWN
for a balancer order at the arrival of LOCAL (R99 to R101, R119). -/
def withRemoval (s : State) (c : ConnId) (old : Connection) : State :=
  let z := s.conn c
  match s.queue.orders.find? fun o => o.conn == c with
  | none => s
  | some o =>
    if (z.presence = .absent ∨ z.presence = .mismatch) ∧ z.presence ≠ old.presence ∧ o.source = .balancer then
      removed s o .notPresent
    else if z.recordedPhase ≠ old.recordedPhase ∧ z.recordedPhase = some o.target then removed s o .superseded
    else if z.pins.localSwitch = true ∧ old.pins.localSwitch = false ∧ o.source = .balancer then
      removed s o .withdrawn
    else s

/-- A transfer has ended: the connection record as given, one log record, the context and the fire slot released, a
release disarm where one is raised, TRANSFER_FAULT for FAULT_OPEN, and the engine told (effects 1 to 5 of R144). -/
def ended (s : State) (k : CtxId) (x : Context) (y : Connection) (outcome : LogOutcome) (disarm : Bool) : State :=
  let c := x.order.conn
  let cleared := s.transfers.put k none
  engineTold
    { s with
      conns := s.conns.set c y
      log := logged s c x.sourcePhase x.order.target x.order.source x.order.trigger x.order.gain outcome
      transfers := { cleared with fireSlot := if s.transfers.fireSlot = some k then none else s.transfers.fireSlot }
      bus :=
        if disarm then
          { s.bus with disarmSlots := s.bus.disarmSlots.set c (some (.release x.dispatchNumber)) }
        else s.bus
      alarms := if outcome = .faultOpen then s.alarms.map fun v => { v with transferFault := true } else s.alarms
      engine :=
        if s.engine.state = .quiet then { s.engine with quietCount := s.setting .quietWindows } else s.engine }
    x.order.source

/-- The record of a connection whose transfer ended without a contact moving: IDLE again (R144). -/
def idled (y : Connection) : Connection := { y with motion := .idle }

/-- The record of a connection whose transfer ended UNCONFIRMED (R144). -/
def unconfirmedRecord (s : State) (y : Connection) : Connection :=
  { y with
    recordedPhase := none, settle := s.setting .settleInterval, motion := .faulted, faultCause := some .unconfirmed }

/-- A context and its connection's motion replaced (R130). -/
def inContext (s : State) (k : CtxId) (x : Context) (y : Connection) (m : Motion) : State :=
  { s with
    transfers := s.transfers.put k (some x)
    conns := s.conns.set x.order.conn { y with motion := m } }

/-- A FIRING reply's context (R138). -/
def firedContext (s : State) (x : Context) : Context :=
  { x with state := .fired, confirmDeadline := some (s.setting .confirmTimeout), confirmTimer := some 100 }

/-- A context's order has returned to the queue, in the place of its admission, its connection is QUEUED, and the context
and its fire slot are released with a release disarm (R105, R137, R147). -/
def returned (s : State) (k : CtxId) (x : Context) (y : Connection) : State :=
  let cleared := s.transfers.put k none
  let earlier (o : Order) : Bool := decide (o.admissionNumber < x.order.admissionNumber)
  { s with
    transfers := { cleared with fireSlot := if s.transfers.fireSlot = some k then none else s.transfers.fireSlot }
    queue := { s.queue with
      orders := s.queue.orders.takeWhile earlier ++ x.order :: s.queue.orders.dropWhile earlier }
    conns := s.conns.set x.order.conn { y with motion := .queued }
    bus := { s.bus with
      disarmSlots := s.bus.disarmSlots.set x.order.conn (some (.release x.dispatchNumber)) } }

/-- A hold or a restart deferral has reached a context (R147, R149): one that is FIRED or has its FIRE outstanding stays; a
master order returns to the queue in its place (R105), a balancer order ends WITHDRAWN with its log record (R144), and
both raise a release disarm (R145). The context's waiting request goes with it. -/
def disarmed (s : State) (k : CtxId) : State :=
  match s.context k with
  | none => s
  | some x =>
    if x.state = .fired ∨ s.fireOutstanding x = true then s
    else if x.order.source = .balancer then ended s k x (idled (s.conn x.order.conn)) .withdrawn true
    else returned s k x (s.conn x.order.conn)

/-- A hold or a restart deferral ends the balancer orders of both contexts. -/
def BothWithdrawn (s : State) : Prop :=
  ∀ k, ∃ x, s.context k = some x ∧ x.order.source = .balancer ∧ x.state ≠ .fired ∧ s.fireOutstanding x = false

/-- A hold or a restart deferral has reached both contexts (R147, R149): the first before the second, but where both end
WITHDRAWN their order is a free value (the model's choice, log entry 12). -/
def Disarmed (s t : State) : Prop :=
  t = disarmed (disarmed s .first) .second ∨ BothWithdrawn s ∧ t = disarmed (disarmed s .second) .first

/-- At most one order for any connection stands in the queue and the contexts together (R89). -/
def OneOrderInAll (s : State) : Prop := ((allOrders s).map (·.conn)).Nodup

/-- What the table of R142 decides from a good confirm poll reply: the outcome and the phase it shows. -/
def confirmed (x : Context) (r : PollReport) : Option (LogOutcome × Option Phase) :=
  let moved : Bool := x.counterAtDispatch != some r.counter
  if r.unitState = .steady ∧ r.closedPhase = some x.order.target then some (.completed, r.closedPhase)
  else if r.unitState = .steady ∧ r.closedPhase.isSome ∧ (x.sourcePhase = none ∨ x.sourcePhase = r.closedPhase)
      ∧ moved = true then some (.fellBack, r.closedPhase)
  else if r.unitState = .fault ∧ r.closedPhase = none then some (.faultOpen, none)
  else none

/-- The connection record at the end that a confirm poll decides (R144). -/
def confirmedRecord (s : State) (y : Connection) (outcome : LogOutcome) (shown : Option Phase) : Connection :=
  { y with
    recordedPhase := shown
    settle := s.setting .settleInterval
    transfersToday := if outcome = .completed then min (y.transfersToday + 1) 255 else y.transfersToday
    motion := if outcome = .faultOpen then .faulted else .idle
    faultCause := if outcome = .faultOpen then some .openContact else y.faultCause }

/-- A lapse for presence: ARRIVING and PRESENT begin to lapse, LAPSING counts on, and at the limit the connection is
ABSENT, with UNIT_LOST raised when it had been PRESENT; ABSENT and MISMATCH are unchanged (R122, R123). -/
def lapsed (s : State) (c : ConnId) : State :=
  let x := s.conn c
  match x.presence with
  | .arriving =>
    withConn s c { x with presence := .lapsing, lapseCount := 1, beforeLapse := some .arriving, arrivalHold := 0 }
  | .present =>
    withConn s c { x with presence := .lapsing, lapseCount := 1, beforeLapse := some .present, arrivalHold := 0 }
  | .lapsing =>
    if x.lapseCount + 1 < s.setting .lapseLimit then withConn s c { x with lapseCount := x.lapseCount + 1 }
    else
      { s with
        conns := s.conns.set c { x with presence := .absent, lapseCount := 0, beforeLapse := none }
        alarms :=
          if x.beforeLapse = some .present then s.alarms.map fun v => { v with unitLost := true } else s.alarms }
  | .absent => s
  | .mismatch => s

/-! ### What the statements about the arbiter share (R115 to R117) -/

/-- A request of one class waits in a context's slot. -/
def Waits (s : State) (r : CtxRequest) (k : CtxId) (x : Context) : Prop := s.context k = some x ∧ x.slot = some r

/-- Of the contexts whose request of one class waits, this one's transfer was dispatched first. -/
def GoesFirst (s : State) (r : CtxRequest) (k : CtxId) (x : Context) : Prop :=
  Waits s r k x ∧ ∀ j y, Waits s r j y → x.dispatchNumber ≤ y.dispatchNumber

/-- A request has been sent, and nothing else has changed: it is outstanding with the tag, which has advanced by one
(R113). -/
def sent (s : State) (c : ConnId) (r : BusRequest) (raiser : Raiser) : State :=
  { s with bus := { s.bus with outstanding := some ⟨c, s.bus.tag, r, raiser⟩, tag := s.bus.tag + 1 } }

/-- A context's record replaced; the other context and the fire slot stay. -/
def withContext (s : State) (k : CtxId) (x : Context) : State := { s with transfers := s.transfers.put k (some x) }

/-- A disarm has left its slot (R114). -/
def disarmTaken (s : State) (c : ConnId) : State :=
  { s with bus := { s.bus with disarmSlots := s.bus.disarmSlots.set c none } }

/-- The routine poll has left its slot, sent or dropped for want of a member, and its timer has been restarted (R116). -/
def routineTaken (s : State) : State :=
  { s with bus := { s.bus with routineSlot := false, routineTimer := some (s.setting .routineSpacing) } }

/-- A survey round's list as it stands after a choice; with nothing left on it the survey slot is empty (R117). -/
def surveyLeft (s : State) (list : List ConnId) : State :=
  { s with bus := { s.bus with surveyList := list, surveySlot := !list.isEmpty } }

/-- A connection is a member of the routine rotation (R116). -/
def Rotates (s : State) (c : ConnId) : Prop :=
  (s.config c).kind ≠ .unused
    ∧ ((s.conn c).presence = .arriving ∨ (s.conn c).presence = .present ∨ (s.conn c).presence = .lapsing)
    ∧ (s.conn c).motion ≠ .arming ∧ (s.conn c).motion ≠ .armed ∧ (s.conn c).motion ≠ .fired

/-- A connection lies above the rotation's position (R116). -/
def AbovePosition (s : State) (c : ConnId) : Prop := ∃ p, s.bus.position = some p ∧ p < c

/-- The rotation's choice: the lowest member above the position, or the lowest member when none is above it (R116). -/
def RotationTakes (s : State) (c : ConnId) : Prop :=
  Rotates s c ∧ ((AbovePosition s c ∧ ∀ d, Rotates s d → AbovePosition s d → c ≤ d)
    ∨ ((∀ d, Rotates s d → ¬ AbovePosition s d) ∧ ∀ d, Rotates s d → c ≤ d))

/-- A listed connection that a survey round still polls (R117). -/
def StillSurveyed (s : State) (c : ConnId) : Prop :=
  (s.config c).kind ≠ .unused ∧ ((s.conn c).presence = .absent ∨ (s.conn c).presence = .mismatch)
    ∧ (s.conn c).motion ≠ .arming ∧ (s.conn c).motion ≠ .armed ∧ (s.conn c).motion ≠ .fired

/-! ### What the statements about seconds share (R185, R11, R121, R97) -/

/-- One second of a connection's counts (R11, R121). -/
def secondLater (x : Connection) : Connection :=
  { x with
    settle := x.settle - 1
    arrivalHold := if x.presence = .arriving then x.arrivalHold - 1 else x.arrivalHold
    presence := if x.presence = .arriving ∧ x.arrivalHold ≤ 1 then .present else x.presence }

/-! ### Invariants -/

/-- The log holds at most 64 records, and their sequence numbers are consecutive modulo 2^32 up to the next one (R183). -/
def LogConsecutive (s : State) : Prop :=
  s.log.records.length ≤ 64
    ∧ ∀ i : Fin s.log.records.length,
        (s.log.records[i]).sequence = s.log.nextSequence - BitVec.ofNat 32 (s.log.records.length - i.val)

/-- A copy of the settings whose every item lies in its range (R188, R172), with U_stop below U_start (R71), the dead
interval a multiple of 10 (R133), allowed phases that suit the kind (R3) and trigger fields in range (R81). -/
def SettingsSound (st : Settings) : Prop :=
  (∀ id : SettingId,
    match (settingRow id).values with
    | .range low high => low ≤ st.numeric.get id.number ∧ st.numeric.get id.number ≤ high
    | .list vs => st.numeric.get id.number ∈ vs)
    ∧ st.numeric.get SettingId.uStop.number < st.numeric.get SettingId.uStart.number
    ∧ 10 ∣ st.numeric.get SettingId.deadInterval.number
    ∧ (∀ c : ConnId, 1 ≤ phaseCount (st.conns.get c).allowed
        ∧ ((st.conns.get c).kind = .movable → 2 ≤ phaseCount (st.conns.get c).allowed))
    ∧ ∀ i : TriggerId, 1 ≤ (st.triggers.get i).persistence ∧ (st.triggers.get i).persistence ≤ 15
        ∧ (thresholdRange (st.triggers.get i).quantity).1 ≤ (st.triggers.get i).threshold
        ∧ (st.triggers.get i).threshold ≤ (thresholdRange (st.triggers.get i).quantity).2

/-- The working settings, a good stored image and the copy of a save in progress are all sound (R187, R189). -/
def AllSettingsSound (s : State) : Prop :=
  SettingsSound s.settings ∧ (∀ st, s.image = some st → SettingsSound st) ∧ ∀ st, s.saving = some st → SettingsSound st

/-- The motion a context's state is mirrored in (R130, R14). -/
def motionOf : CtxState → Motion
  | .arming => .arming | .armed => .armed | .fired => .fired

/-- The move queue and the contexts agree (R89, R130, R131): at most one order for a connection in both together, an
occupancy of at most 16, each order's connection QUEUED or in the motion of its context, a FIRED context the holder of
the fire slot, the FIRE that waits or is outstanding that of the ARMED holder, and an ARM that of an ARMING context.
Dispatch numbers differ and are below the next. -/
def OrdersSound (s : State) : Prop :=
  ((allOrders s).map (·.conn)).Nodup ∧ s.occupancy ≤ 16
    ∧ (∀ o ∈ s.queue.orders, (s.conn o.conn).motion = .queued)
    ∧ (∀ k x, s.context k = some x →
        (s.conn x.order.conn).motion = motionOf x.state ∧ x.dispatchNumber < s.transfers.nextDispatch
        ∧ (x.state = .fired → s.transfers.fireSlot = some k)
        ∧ (x.slot = some .fire → x.state = .armed ∧ s.transfers.fireSlot = some k)
        ∧ (x.slot = some .arm → x.state = .arming)
        ∧ ∀ o, s.bus.outstanding = some o → o.raiser = .context x.dispatchNumber →
            (o.request = .fire → x.state = .armed ∧ s.transfers.fireSlot = some k ∧ x.slot ≠ some .fire)
            ∧ ∀ q dead hold, o.request = .arm q dead hold → x.state = .arming ∧ x.slot ≠ some .arm)
    ∧ (∀ x y, s.context .first = some x → s.context .second = some y → x.dispatchNumber ≠ y.dispatchNumber)
    ∧ ∀ o n, s.bus.outstanding = some o → o.raiser = .context n → n < s.transfers.nextDispatch

/-! ### What the statements about the balance engine share (R17, R47, R65 to R67, R76 to R79, R83 to R85, R95) -/

/-- A pass considers a connection (R17). -/
def ForPass (s : State) (c : ConnId) : Prop :=
  (s.config c).kind = .movable ∧ (s.conn c).presence = .present ∧ (s.conn c).motion = .idle ∧ (s.conn c).settle = 0
    ∧ (s.conn c).pins = ⟨false, false, false, false⟩ ∧ (s.conn c).transfersToday < s.setting .dailyBudget
    ∧ (s.conn c).recordedPhase ≠ none

/-- The four fields a pass reads of a connection whose recorded phase is known (R47). -/
def asRead (s : State) (c : ConnId) (a : Phase) : Machine.Eligible :=
  ⟨c, (s.conn c).load, a, (s.config c).allowed, (s.conn c).transfersToday⟩

/-- The list a pass considers: every connection that R17 lets in and no other, in ascending number (R47). -/
def Considered (s : State) (es : List Machine.Eligible) : Prop :=
  (∀ e, e ∈ es ↔ ForPass s e.conn ∧ (s.conn e.conn).recordedPhase = some e.source ∧ e = asRead s e.conn e.source)
    ∧ es.Pairwise fun e f => e.conn < f.conn

/-- What a pass reads of the settings and the phase flags, once, at its start (R42, R48). -/
def passReads (s : State) : PassInput where
  rating := s.setting .phaseRating
  gainFloor := s.setting .gainFloor
  minimumLoad := s.setting .minimumLoad
  liveLow := ⟨s.metering.phases.p1.liveLow, s.metering.phases.p2.liveLow, s.metering.phases.p3.liveLow⟩
  liveHigh := ⟨s.metering.phases.p1.liveHigh, s.metering.phases.p2.liveHigh, s.metering.phases.p3.liveHigh⟩

/-- The phase powers in use (R46). -/
def powersInUse (s : State) : PerPhase Int :=
  ⟨s.metering.phases.p1.power, s.metering.phases.p2.power, s.metering.phases.p3.power⟩

/-- The plan's moves have joined the end of the queue as balancer orders, one after another, with the fields of R66. -/
def ordersPlaced (s : State) (trigger : Option TriggerId) (plan : List PlanEntry) : State :=
  plan.foldl (fun v e => joined v ⟨e.conn, e.target, .balancer, 1, v.partTime, v.queue.admissions,
    v.setting .balancerLifetime, trigger, some e.gain.toNat⟩) s

/-- A pass has run (R79): from the powers in use and the connections considered, the search to the plan depth, the first
moves of its plan placed as far as the queue has room (R95), the report of R67, and the engine WAITING when an order was
placed, in WATCH otherwise. What the search does PlanKeepsItsLimits states. -/
def PassRun (s u : State) (trigger : Option TriggerId) : Prop :=
  ∃ es, Considered s es ∧
    let found := search (passReads s) es (s.setting .planDepth) (powersInUse s) []
    let placed := min found.plan.length (16 - (s.queue.orders.length + s.unfiredContexts))
    let rating := s.setting .phaseRating
    let report : PassReport :=
      { time := s.partTime, trigger := trigger
        startSpread := (spread (powersInUse s)).toNat, startIndex := indexOf (powersInUse s) rating
        eligible := es.length, chosen := found.plan.length, placed := placed
        ending := if found.plan.length = s.setting .planDepth then .depthReached else .noAdmissible
        finalSpread := (spread found.powers).toNat, finalIndex := indexOf found.powers rating }
    u = { ordersPlaced s trigger (found.plan.take placed) with
      engine := { s.engine with
        state := if 0 < placed then .waiting else .watch
        active := decide (0 < placed), windowCount := 0, deferred := none, report := some report } }

/-- A pass that falls due (R77, R78): it becomes the deferred pass while a transfer is in flight or an order of priority 1 or
more is queued, and runs otherwise; the window count returns to 0 (log entry 13). -/
def PassDue (s u : State) (trigger : Option TriggerId) : Prop :=
  if (s.context .first).isSome = true ∨ (s.context .second).isSome = true ∨ ∃ o ∈ s.queue.orders, 1 ≤ o.priority then
    u = { s with engine := { s.engine with
      windowCount := 0
      deferred := some (match trigger with | none => .cadence | some i => .triggered i) } }
  else PassRun s u trigger

/-- A value lies beyond a threshold; both comparisons are strict (R83). -/
def Beyond (cmp : Comparison) (threshold value : Int) : Prop :=
  match cmp with | .above => threshold < value | .below => value < threshold

/-- The value of a phase that an entry compares (R81). -/
def comparedValue (q : Quantity) (x : PhaseState) : Int :=
  match q with
  | .phasePower => x.power | .phaseCurrent => x.current | .phaseVoltage => x.voltage | .powerStep => x.step
  | .unbalance => 0

/-- The condition of a trigger entry holds in a window (R83). -/
def TriggerHolds (t : TriggerConfig) (m : Metering) : Prop :=
  if t.quantity = .unbalance then Beyond t.comparison t.threshold m.unbalance
  else ∃ q, t.phases.get q = true ∧ (m.phases.get q).holdover ≠ .unusable
    ∧ Beyond t.comparison t.threshold (comparedValue t.quantity (m.phases.get q))

/-- An entry fires in a window (R84). -/
def Fires (s : State) (i : TriggerId) : Prop :=
  let t := s.settings.triggers.get i
  let run := s.engine.triggers.get i
  t.enabled = true ∧ TriggerHolds t s.metering ∧ run.latched = false ∧ t.persistence ≤ min (run.matchCount + 1) 15

/-- The run-time fields of an entry after a window (R84). -/
def TriggerAfter (s : State) (i : TriggerId) (after : TriggerRun) : Prop :=
  let t := s.settings.triggers.get i
  let run := s.engine.triggers.get i
  (t.enabled = false → after = run)
    ∧ (t.enabled = true → TriggerHolds t s.metering → after.matchCount = min (run.matchCount + 1) 15
        ∧ (after.latched = true ↔ run.latched = true ∨ Fires s i))
    ∧ (t.enabled = true → ¬ TriggerHolds t s.metering → after = ⟨0, false⟩)

/-- The lowest-numbered entry that fires in a window, if any (R85). -/
def LowestFiring (s : State) : Option TriggerId → Prop
  | none => ∀ i, ¬ Fires s i
  | some i => Fires s i ∧ ∀ j, Fires s j → i ≤ j

/-- The lower of two trigger numbers, where present (R78, R85). -/
def lowerOf : Option TriggerId → Option TriggerId → Option TriggerId
  | none, b => b
  | some a, none => some a
  | some a, some b => some (min a b)

/-- The trigger of a deferred pass (R78). -/
def triggerOf : Option PassCause → Option TriggerId
  | some (.triggered i) => some i
  | some .cadence => none
  | none => none

/-- Stage 4 of a window in WATCH (R77, R78): a firing or a deferred pass makes a pass due; else the window counts, and at
the balance interval a check makes a cadence pass due when U is at or above U_start, or the active flag is set and U is
above U_stop. -/
def WatchWork (s u : State) (fired : Option TriggerId) : Prop :=
  if fired ≠ none ∨ s.engine.deferred ≠ none then PassDue s u (lowerOf fired (triggerOf s.engine.deferred))
  else if s.engine.windowCount + 1 < s.setting .balanceInterval then
    u = { s with engine := { s.engine with windowCount := s.engine.windowCount + 1 } }
  else if s.setting .uStart ≤ s.metering.unbalance
      ∨ s.engine.active = true ∧ s.setting .uStop < s.metering.unbalance then PassDue s u none
  else u = { s with engine := { s.engine with windowCount := 0 } }

/-- A firing in WAITING or QUIET has become pending, unless a lower number is held (R85). -/
def pendingNoted (s : State) (fired : Option TriggerId) : State :=
  { s with engine := { s.engine with pendingTrigger := lowerOf s.engine.pendingTrigger fired } }

/-- Stage 4 of a window in QUIET (R80): the quiet count goes down, and at 0 the engine enters WATCH with the window count at
the balance interval; the pass of a pending trigger then falls due. -/
def QuietWork (s u : State) (fired : Option TriggerId) : Prop :=
  let v := pendingNoted s fired
  if 1 < s.engine.quietCount then u = { v with engine := { v.engine with quietCount := v.engine.quietCount - 1 } }
  else
    let w : State := { v with engine := { v.engine with
      state := .watch, quietCount := 0, windowCount := s.setting .balanceInterval, pendingTrigger := none } }
    if v.engine.pendingTrigger = none then u = w else PassDue w u v.engine.pendingTrigger

/-- The engine has handled an accepted window in the four stages of R76, from a state whose metering input holds the
window. A stop's firings are dropped, and a window whose first stage takes the engine to QUIET does not count it down
(R74). -/
def WindowHandled (s u : State) : Prop :=
  ∃ (fired : Option TriggerId) (runs : Vector TriggerRun 8),
    LowestFiring s fired ∧ (∀ i, TriggerAfter s i (runs.get i)) ∧
    let e := engineReviewed s
    let v : State := { s with engine := { e with
      active := e.active && decide (s.setting .uStop < s.metering.unbalance), triggers := runs } }
    match e.state with
    | .watch => WatchWork v u fired
    | .waiting => u = pendingNoted v fired
    | .quiet => if s.engine.state = .quiet then QuietWork v u fired else u = pendingNoted v fired
    | .off => u = v
    | .starved => u = v
    | .held => u = v
    | .paused => u = v

end Sys2Proof.Claims
end

