-- ==== Sys2Proof/Certificates/Slice0/Obligations.lean ====
section
/-!
DEFINITION. The statements for the provers. Each statement's docstring says what it states; its rules stand in
OBLIGATIONS.json.
-/

open Sys2Proof Sys2Proof.Machine Sys2Proof.Claims

/-! ### The machine -/

/-- A step takes the command at the front of the queue and runs it on the state with the queue's rest; an empty queue
idles, which is the model's choice (log entry 1). Every command completes in every state: none stops. -/
def Obligations.StepTakesTheFrontCommand : Prop :=
  (∀ (c : Instr) (rest : List Instr) (s : State), s.pending = c :: rest → step s = exec c { s with pending := rest })
    ∧ (∀ s : State, s.pending = [] → step s = .next s)
    ∧ ∀ (c : Instr) (s : State), Completes c s

/-! ### Supply (R189, R190) -/

/-- POWER_ON gives every block its power-on values, whatever stood before: the settings of a good image or the defaults,
SETTINGS_DEFAULTED in every alarm set for a bad one, everything else at the values of the chapters' reset rules, the
first survey round begun and its first poll on the bus. That this poll carries the tag 0 and the tag then stands at 1 is the
model's reading (log entry 10), and so is that the survey slot is empty once the last listed connection has been taken
(log entry 22). -/
def Obligations.PowerOnStartsEveryBlock : Prop :=
  ∀ s : State, ∃ t, exec .powerOn s = .next t
    ∧ t.pending = s.pending ∧ t.powered = true ∧ t.image = imageFound s ∧ t.saving = none ∧ t.restartDeferred = false
    ∧ t.settings = (imageFound s).getD Settings.defaults ∧ t.partTime = 0
    ∧ (∀ c, connStarted t.settings c (t.conn c) ∧ (t.conn c).motion = .idle ∧ (t.conn c).faultCause = none
        ∧ (t.conn c).transfersToday = 0 ∧ (t.conn c).pins = ⟨false, false, false, false⟩)
    ∧ meteringStarted t.settings t.metering ∧ engineStarted t.settings t.engine ∧ t.queue = ⟨[], 0⟩
    ∧ busStarted t.settings t.bus ∧ t.transfers = ⟨none, none, none, 1⟩ ∧ t.hold = ⟨false, false⟩
    ∧ (∀ p a, (t.alarms.get p).has a = true ↔ a = .settingsDefaulted ∧ imageFound s = none)
    ∧ LinesFollow t ∧ t.log = ⟨[], 1⟩
    ∧ ∀ p, t.ports.get p = ⟨none, none, none, 0, 0, t.settings.numeric.get (baudSetting p).number, none⟩

/-- State.reset is the power-on of a part whose stored image is bad (the model's choice of image, log entry 2); no
register is left at another value than POWER_ON's. The default settings are those of the table of R188, every connection
UNUSED with all phases allowed and no expected serial, every trigger entry as R87 gives it, and every mask full. -/
def Obligations.ResetIsPowerOnWithABadImage : Prop :=
  (∀ s : State, imageFound s = none → exec .powerOn s = .next { State.reset with pending := s.pending })
  ∧ (∀ id : SettingId, Settings.defaults.numeric.get id.number = (settingRow id).default)
  ∧ (∀ c, Settings.defaults.conns.get c = ⟨.unused, ⟨true, true, true⟩, 0⟩)
  ∧ (∀ i, Settings.defaults.triggers.get i = ⟨false, ⟨true, true, true⟩, .unbalance, .above, 9999, 1⟩)
  ∧ ∀ p a, (Settings.defaults.masks.get p).has a = true

/-- SUPPLY_LOST ends all operation: the stored image stays, but is bad when a save was in progress, and from then on no
command but POWER_ON does anything (that the volatile state stays as it stood is the model's choice, log entry 4). -/
def Obligations.SupplyLostEndsOperation : Prop :=
  (∀ s : State, s.powered = true →
    exec .supplyLost s = .next { s with powered := false, image := imageFound s, saving := none })
  ∧ ∀ (c : Instr) (s : State), s.powered = false → c ≠ .powerOn → exec c s = .next s

/-! ### Frames on the master ports (R167 to R169) -/

/-- A frame with a length of 0 or above 120, or with a CRC that does not match, is dropped unanswered and counted as
rejected, and so is a partial frame that more than 50 ms follows, whenever its bytes came; nothing else changes. With no
frame under assembly a gap has no effect, and a byte other than the start byte is ignored. Bytes that a row brings while
part of a frame is under assembly go on with it: they do what they do behind that part on a port that waits. That a row
carries the bytes received is the model's reading (log entry 9). -/
def Obligations.BadFramesAreCounted : Prop :=
  (∀ (s : State) (p : Port), s.powered = true → (s.ports.get p).rx = none →
    (∀ len : Byte, len.toNat = 0 ∨ 120 < len.toNat → exec (.rejectedFrame p [0x5A, len]) s = .next (rejecting s p))
    ∧ (∀ (payload : List Byte) (high low : Byte), 1 ≤ payload.length → payload.length ≤ 120 →
        crcOf (byteOf payload.length :: payload) ≠ fromTwo high low →
        exec (.rejectedFrame p (0x5A :: byteOf payload.length :: (payload ++ [high, low]))) s = .next (rejecting s p))
    ∧ (∀ part : List Byte, PartOfFrame part → exec (.frameGapTimeout p (0x5A :: part)) s = .next (rejecting s p)
        ∧ exec (.rejectedFrame p (0x5A :: part)) s =
            .next { s with ports := s.ports.set p { s.ports.get p with rx := some part } })
    ∧ exec (.frameGapTimeout p []) s = .next s
    ∧ ∀ (b : Byte) (rest : List Byte), b ≠ 0x5A →
        exec (.rejectedFrame p (b :: rest)) s = exec (.rejectedFrame p rest) s
        ∧ exec (.frameGapTimeout p (b :: rest)) s = exec (.frameGapTimeout p rest) s)
  ∧ ∀ (s : State) (p : Port) (got : List Byte), s.powered = true → (s.ports.get p).rx = some got →
    exec (.frameGapTimeout p []) s = .next (rejecting (taken s p) p)
    ∧ (PartOfFrame got → ∀ more : List Byte,
        exec (.rejectedFrame p more) s = exec (.rejectedFrame p (0x5A :: (got ++ more))) (taken s p)
        ∧ exec (.frameGapTimeout p more) s = exec (.frameGapTimeout p (0x5A :: (got ++ more))) (taken s p))

/-- The bytes of a frame, laid out by R177 and received one by one by R167, are the good frame of their payload. That the row
REJECTED_FRAME carries the bytes received, and that bytes which complete a good frame do what FRAME_BUFFERED with its
payload does, is the model's reading (log entries 9 and 24). -/
def Obligations.FrameBytesGiveThePayload : Prop :=
  ∀ (s : State) (p : Port) (payload : List Byte), s.powered = true → (s.ports.get p).rx = none →
    1 ≤ payload.length → payload.length ≤ 120 →
    exec (.rejectedFrame p (frameOf payload)) s = exec (.frameBuffered p payload) s

/-- A good frame that completes during a response is buffered, or dropped as an overrun when one is buffered already;
nothing else changes. That every request row, and UNKNOWN_COMMAND, is the good frame of its code and parameters, so that this
holds of each, is the model's reading (log entries 9 and 24). -/
def Obligations.FrameDuringAResponseIsBuffered : Prop :=
  (∀ (s : State) (p : Port) (payload : List Byte), s.powered = true → (s.ports.get p).response.isSome →
    exec (.frameBuffered p payload) s = .next { s with ports := s.ports.set p (heldBack (s.ports.get p) payload) })
  ∧ (∀ (s : State) (c : Command) (p : Port) (params : List Byte),
      exec (requestRow c p params) s = exec (.frameBuffered p ((codeAndLength c).1 :: params)) s)
  ∧ ∀ (s : State) (p : Port) (code : Byte) (params : List Byte),
      exec (.unknownCommand p code params) s = exec (.frameBuffered p (code :: params)) s

/-- When a response's last byte leaves, the port takes up a reloaded rate, and a buffered frame's request is taken in the
same event, as if it had completed on the port then; with none buffered nothing else changes. A frame under assembly meanwhile
stays as it stood, but that a RESTART which takes effect at once clears it. -/
def Obligations.ResponseLeavesThenTheBufferIsTaken : Prop :=
  ∀ (s : State) (p : Port) (r : List Byte), s.powered = true → (s.ports.get p).response = some r →
    let x := s.ports.get p
    let idle : PortState :=
      { x with response := none, buffered := none, baud := x.baudNext.getD x.baud, baudNext := none }
    (x.buffered = none → exec (.responseTransmitted p) s = .next { s with ports := s.ports.set p idle })
    ∧ (∀ payload, x.buffered = some payload → x.rx = none →
        exec (.responseTransmitted p) s = exec (.frameBuffered p payload) { s with ports := s.ports.set p idle })
    ∧ ∀ payload, x.buffered = some payload →
        let restarts : Prop := payload = [0x3C] ∧ p ≠ .pp ∧ s.restartDeferred = false ∧ ¬ RestartHeld s
        ∃ u, exec (.frameBuffered p payload) { s with ports := s.ports.set p idle } = .next u
          ∧ (restarts → exec (.responseTransmitted p) s = .next u ∧ (u.ports.get p).rx = none)
          ∧ (¬ restarts → exec (.responseTransmitted p) s =
              .next { u with ports := u.ports.set p { u.ports.get p with rx := x.rx } })

/-- Checks 1 to 3 of a taken request: a code that names no command, then a port the command is not permitted from, then
a wrong number of parameter bytes; each is answered with its status and has no other effect. -/
def Obligations.ChecksBeforeACommand : Prop :=
  (∀ (s : State) (p : Port) (code : Byte) (params : List Byte), Ready s p → (∀ c, (codeAndLength c).1 ≠ code) →
    exec (.unknownCommand p code params) s = .next (answered (taken s p) p (code ||| 0x80) 0x10 []))
  ∧ ∀ (s : State) (c : Command) (p : Port) (params : List Byte), Ready s p →
    (p ∉ portsOf c →
      exec (requestRow c p params) s = .next (answered (taken s p) p ((codeAndLength c).1 ||| 0x80) 0x12 []))
    ∧ (p ∈ portsOf c → params.length ≠ (codeAndLength c).2 →
      exec (requestRow c p params) s = .next (answered (taken s p) p ((codeAndLength c).1 ||| 0x80) 0x11 []))

/-! ### Reading (R173, R39, R106, R172, R184): no reading command changes any state but its port's response -/


/-- READ_STATUS answers its 70 bytes in the order of R181: part time, the engine with its pass report, the two contexts,
the hold set, the port's own alarm set and mask, the live level conditions, the three flags and the six counters. The 17
bytes of the pass report and the nine of each context are those of its fields (R67, R152). That the six counters go port by
port, the rejected-frame counter first, is the model's reading (log entry 32). -/
def Obligations.StatusShowsTheWholePart : Prop :=
  ∀ (s : State) (p : Port), Ready s p →
    let data : List Byte :=
      fourBytes s.partTime
        ++ [engineCode s.engine.state, flagCode s.engine.paused, flagCode s.engine.active, byteOf s.engine.windowCount,
          byteOf s.engine.quietCount, triggerCode s.engine.pendingTrigger]
        ++ (match s.engine.deferred with
          | none => [0, 0xFF] | some .cadence => [1, 0xFF] | some (.triggered i) => [2, byteOf i.val])
        ++ [flagCode ((allOrders s).any fun o => o.source == .balancer)]
        ++ (match s.engine.report with | none => List.replicate 18 0 | some r => 1 :: passReportOf r)
        ++ (match s.transfers.first with | none => List.replicate 10 0 | some x => 1 :: contextOf s .first x)
        ++ (match s.transfers.second with | none => List.replicate 10 0 | some x => 1 :: contextOf s .second x)
        ++ [holdCode s.hold, alarmsCode (s.alarms.get p), alarmsCode (s.settings.masks.get p), liveByte s,
          flagCode s.bus.surveyRunning, flagCode s.saving.isSome, flagCode s.restartDeferred]
        ++ twoOf s.ports.op.rejected ++ twoOf s.ports.op.overrun ++ twoOf s.ports.sp.rejected
        ++ twoOf s.ports.sp.overrun ++ twoOf s.ports.pp.rejected ++ twoOf s.ports.pp.overrun
    exec (.readStatus p []) s = .next (answered (taken s p) p 0x82 0x00 data) ∧ data.length = 70

/-- READ_PHASES answers the metering input as it stands: status, metering lost, last sequence, gap count, U, and for each
phase its holdover state, its values in use, its step and its live flags. -/
def Obligations.PhasesShowTheMeteringInput : Prop :=
  ∀ (s : State) (p : Port), Ready s p →
    let m := s.metering
    let phase (q : PhaseState) : List Byte :=
      [holdoverCode q.holdover] ++ twoOfInt q.power ++ twoOf q.voltage ++ twoOf q.current ++ twoOf q.step
        ++ [flagCode q.liveLow, flagCode q.liveHigh]
    exec (.readPhases p []) s = .next (answered (taken s p) p 0x83 0x00
      ([meteringCode m.status, flagCode m.lost, m.lastSequence, byteOf m.gapCount] ++ twoOf m.unbalance
        ++ phase m.phases.p1 ++ phase m.phases.p2 ++ phase m.phases.p3))

/-- READ_CONNECTION answers the record of a connection 0 to 63 and its last poll report, and READ_TABLE the records of
the four connections from a start that exist; a number outside 0..63 is refused BAD_CONNECTION by both. The 23 bytes of a
record and the seven of a report are those of its fields, in the order and with the codes of the wire formats; that bits 3
to 7 of a report's flags byte are sent as 0 is the model's choice (log entry 29). -/
def Obligations.ConnectionReadsShowTheRecords : Prop :=
  ∀ (s : State) (p : Port) (n : Byte), Ready s p →
    (∀ c : ConnId, n.toNat = c.val →
      exec (.readConnection p [n]) s = .next (answered (taken s p) p 0x84 0x00
        (recordOf (s.config c) c (s.conn c) ++ match (s.conn c).lastReport with
          | none => List.replicate 8 0
          | some r => 1 :: pollReportOf r))
      ∧ exec (.readTable p [n]) s = .next (answered (taken s p) p 0x85 0x00
        (byteOf (min 4 (64 - c.val))
          :: ((List.finRange 64).filter fun d => decide (c ≤ d) && decide (d.val < c.val + 4)).flatMap fun d =>
            recordOf (s.config d) d (s.conn d))))
    ∧ (64 ≤ n.toNat → exec (.readConnection p [n]) s = .next (answered (taken s p) p 0x84 0x14 [])
      ∧ exec (.readTable p [n]) s = .next (answered (taken s p) p 0x85 0x14 []))
    ∧ ∀ c, (recordOf (s.config c) c (s.conn c)).length = 23

/-- READ_QUEUE answers the occupancy, the number of queued orders, the number of orders in ARMING or ARMED contexts, and
up to six queued orders from a start position 0..15; a position above 15 is refused BAD_VALUE. -/
def Obligations.QueueReadShowsTheOrders : Prop :=
  ∀ (s : State) (p : Port) (n : Byte), Ready s p →
    (n.toNat ≤ 15 →
      let listed := (s.queue.orders.drop n.toNat).take 6
      exec (.readQueue p [n]) s = .next (answered (taken s p) p 0x86 0x00
        ([byteOf (s.queue.orders.length + s.unfiredContexts), byteOf s.queue.orders.length, byteOf s.unfiredContexts,
          byteOf listed.length] ++ listed.flatMap fun o =>
            [byteOf o.conn.val, phaseCode (some o.target), sourceCode o.source, byteOf o.priority]
              ++ fourBytes o.admissionTime ++ twoOf o.life ++ [triggerCode o.trigger] ++ twoOf (o.gain.getD 0))))
    ∧ (15 < n.toNat → exec (.readQueue p [n]) s = .next (answered (taken s p) p 0x86 0x13 []))

/-- READ_LOG answers by the first case of R184 that fits the position of its starting sequence around the wrap, in every
state whose log holds at most 64 records; a count outside 1..8 is refused BAD_VALUE. -/
def Obligations.LogReadFollowsThePosition : Prop :=
  ∀ (s : State) (p : Port) (a b c d count : Byte), Ready s p → s.log.records.length ≤ 64 →
    let start := fromFour a b c d
    let oldest := s.log.nextSequence - BitVec.ofNat 32 s.log.records.length
    let answer (gap : Bool) (rs : List LogRecord) : State :=
      answered (taken s p) p 0x87 0x00 ([flagCode gap, byteOf rs.length]
        ++ fourBytes ((rs.head?.map (·.sequence)).getD 0) ++ rs.flatMap fun r =>
          fourBytes r.time ++ [byteOf r.conn.val, phaseCode r.fromPhase, phaseCode (some r.toPhase), sourceCode r.source,
            triggerCode r.trigger] ++ twoOf (r.gain.getD 0) ++ [outcomeCode r.outcome])
    (count.toNat = 0 ∨ 8 < count.toNat →
      exec (.readLog p [a, b, c, d, count]) s = .next (answered (taken s p) p 0x87 0x13 []))
    ∧ (1 ≤ count.toNat → count.toNat ≤ 8 →
      exec (.readLog p [a, b, c, d, count]) s = .next (
        if (start - oldest).toNat < s.log.records.length then
          answer false ((s.log.records.drop (start - oldest).toNat).take count.toNat)
        else if start = s.log.nextSequence then answer false []
        else if (oldest - start).toNat ≤ 2 ^ 31 then answer true (s.log.records.take count.toNat)
        else answer false []))

/-- IDENTIFY answers the part name in ASCII, the two revisions and the port. READ_SETTING answers the working value of a
numeric setting 0..28, a trigger entry for 128..135, and BAD_VALUE for every other item. -/
def Obligations.IdentifyAndSettingReads : Prop :=
  (∀ (s : State) (p : Port), Ready s p →
    exec (.identify p []) s = .next (answered (taken s p) p 0x81 0x00
      [0x55, 0x4A, 0x33, 0x36, 0x34, Config.hardwareRevision, Config.firmwareRevision,
        match p with | .op => 1 | .sp => 2 | .pp => 3]))
  ∧ ∀ (s : State) (p : Port) (item : Byte), Ready s p →
    (∀ id : SettingId, item.toNat = (settingRow id).number →
      exec (.readSetting p [item]) s = .next (answered (taken s p) p 0x88 0x00 (item :: fourOf (s.setting id))))
    ∧ (∀ i : TriggerId, item.toNat = 128 + i.val →
      let cfg := s.settings.triggers.get i
      let run := s.engine.triggers.get i
      exec (.readSetting p [item]) s = .next (answered (taken s p) p 0x88 0x00
        (item :: [flagCode cfg.enabled, phasesCode cfg.phases, quantityCode cfg.quantity, comparisonCode cfg.comparison]
          ++ fourOfInt cfg.threshold ++ [byteOf cfg.persistence, byteOf run.matchCount, flagCode run.latched])))
    ∧ (28 < item.toNat ∧ item.toNat < 128 ∨ 135 < item.toNat →
      exec (.readSetting p [item]) s = .next (answered (taken s p) p 0x88 0x13 []))

/-! ### Order requests (R91 to R96, R98, R102) -/

/-- A MOVE is refused by the first of the ten checks of R91 that fails, and changes nothing else. -/
def Obligations.MoveChecksInOrder : Prop :=
  ∀ (s : State) (p : Port) (n target priority high low : Byte), Ready s p → p ≠ .pp →
    (64 ≤ n.toNat →
      exec (.move p [n, target, priority, high, low]) s = .next (answered (taken s p) p 0x90 0x14 []))
    ∧ ∀ c : ConnId, n.toNat = c.val → ∀ check,
        (moveChecks s p c target priority).find? (·.1) = some check →
        exec (.move p [n, target, priority, high, low]) s = .next (answered (taken s p) p 0x90 check.2 [])

/-- A MOVE that passes every check is admitted: NEW when there is room, REPLACED over the connection's queued order,
EVICTED when a full queue gives up a balancer order. Its order joins the end of the queue with the fields of R94, every
other order keeps its place, and exactly the last parts of the event follow. -/
def Obligations.MoveIsAdmitted : Prop :=
  ∀ (s : State) (p : Port) (c : ConnId) (n target priority high low : Byte) (q : Phase), Ready s p → p ≠ .pp →
    n.toNat = c.val → phaseNamed target = some q → (moveChecks s p c target priority).find? (·.1) = none →
    OneOrderEach s →
    let life := moveLife s (fromTwo high low).toNat
    let order := movedOrder s p c q priority.toNat life.1
    let answer (u : State) (how evicted : Byte) : State :=
      answered (taken u p) p 0x90 (if life.2 then 0x01 else 0x00) ([how, evicted] ++ twoOf life.1)
    ∃ t, exec (.move p [n, target, priority, high, low]) s = .next t ∧
      match s.queue.orders.find? fun o => o.conn == c with
      | some old => Tail (answer (joined (replaced s old) order) 1 0xFF) t
      | none =>
        if s.queue.orders.length + s.unfiredContexts < 16 then Tail (answer (joined s order) 0 0xFF) t
        else ∃ e, Evicts s e ∧ Tail (answer (joined (removed s e .evicted) order) 2 (byteOf e.conn.val)) t

/-- CANCEL removes the connection's queued order CANCELLED, whatever its source; it is refused while the order is in a
context, answered "nothing cancelled" when there is none, and not permitted from PP. -/
def Obligations.CancelRemovesTheOrder : Prop :=
  (∀ (s : State) (p : Port) (n : Byte), Ready s p → p ≠ .pp →
    (64 ≤ n.toNat → exec (.cancel p [n]) s = .next (answered (taken s p) p 0x91 0x14 []))
    ∧ ∀ c : ConnId, n.toNat = c.val →
      match s.queue.orders.find? fun o => o.conn == c with
      | some o => ∃ t, exec (.cancel p [n]) s = .next t
          ∧ Tail (answered (taken (removed s o .cancelled) p) p 0x91 0x00 [1, sourceCode o.source]) t
      | none =>
        if (s.conn c).motion = .arming ∨ (s.conn c).motion = .armed ∨ (s.conn c).motion = .fired then
          exec (.cancel p [n]) s = .next (answered (taken s p) p 0x91 0x24 [])
        else exec (.cancel p [n]) s = .next (answered (taken s p) p 0x91 0x00 [0, 0xFF]))
  ∧ ∀ (s : State) (n : Byte), Ready s .pp →
    exec (.cancel .pp [n]) s = .next (answered (taken s .pp) .pp 0x91 0x12 [])

/-- REPRIORITIZE gives the connection's queued order the new priority and keeps every other field and every order's place;
exactly the last parts of the event follow, of which a dispatch may take orders out. -/
def Obligations.ReprioritizeChangesThePriority : Prop :=
  ∀ (s : State) (p : Port) (n priority : Byte), Ready s p → p ≠ .pp →
    (64 ≤ n.toNat → exec (.reprioritize p [n, priority]) s = .next (answered (taken s p) p 0x92 0x14 []))
    ∧ ∀ c : ConnId, n.toNat = c.val →
      if 15 < priority.toNat then
        exec (.reprioritize p [n, priority]) s = .next (answered (taken s p) p 0x92 0x13 [])
      else if s.queue.orders.any fun o => o.conn == c then
        ∃ t, exec (.reprioritize p [n, priority]) s = .next t
          ∧ Tail (answered (taken { s with queue := { s.queue with
              orders := s.queue.orders.map fun o => if o.conn = c then { o with priority := priority.toNat } else o } }
            p) p 0x92 0x00 []) t
      else if (s.conn c).motion = .arming ∨ (s.conn c).motion = .armed ∨ (s.conn c).motion = .fired then
        exec (.reprioritize p [n, priority]) s = .next (answered (taken s p) p 0x92 0x24 [])
      else exec (.reprioritize p [n, priority]) s = .next (answered (taken s p) p 0x92 0x28 [])

/-- A dispatch choice takes an eligible order of the highest priority, and of those the one of the lowest connection
number; it fills the first free context from it, and only while the hold set is empty and no restart is deferred, and it
is made again until no context is free or no order is eligible. The last parts of an event are, in this order: a context
that waits for the free fire slot takes it and raises FIRE, the one dispatched earlier first; the dispatch choice; the
arbiter, which changes the bus and the contexts' request slots alone; and the attention lines. Each changes nothing else.
That every event takes its last parts in this order is the model's reading (log entry 21), and that a dispatched context
holds no arm hold sent until its ARM is granted is the model's choice (log entry 20). -/
def Obligations.DispatchTakesTheHighest : Prop :=
  ∀ s : State,
    (∀ o, s.bestOrder = some o → o ∈ s.queue.orders ∧ Eligible s o ∧
      ∀ q ∈ s.queue.orders, Eligible s q → q.priority < o.priority ∨ q.priority = o.priority ∧ o.conn ≤ q.conn)
    ∧ (s.bestOrder = none → ∀ q ∈ s.queue.orders, ¬ Eligible s q)
    ∧ (s.hold.op = true ∨ s.hold.pp = true ∨ s.restartDeferred = true → s.dispatchChoice = s)
    ∧ (∀ k o, s.freeContext = some k → s.bestOrder = some o → s.hold = ⟨false, false⟩ → s.restartDeferred = false →
        s.dispatchOnce = dispatched s k o)
    ∧ (s.freeContext = none ∨ s.bestOrder = none → s.dispatchOnce = s)
    ∧ s.freeContext = (if s.context .first = none then some .first else if s.context .second = none then some .second
        else none)
    ∧ s.dispatchChoice = s.dispatchOnce.dispatchOnce
    ∧ (let t := s.dispatchChoice
       s.hold = ⟨false, false⟩ → s.restartDeferred = false →
        (∀ k, t.context k ≠ none) ∨ ∀ q ∈ t.queue.orders, ¬ Eligible t q)
    ∧ (s.transfers.fireSlot ≠ none ∨ s.hold.op = true ∨ s.hold.pp = true ∨ s.restartDeferred = true
        ∨ (∀ k x, s.context k = some x → x.state ≠ .armed) → s.takeFireSlot = s)
    ∧ (∀ k x, s.transfers.fireSlot = none → s.hold = ⟨false, false⟩ → s.restartDeferred = false →
        s.context k = some x → x.state = .armed →
        (∀ j y, s.context j = some y → y.state = .armed → j = k ∨ x.dispatchNumber < y.dispatchNumber) →
        s.takeFireSlot = slotTaken s k x)
    ∧ (let t := s.arbitrate
       t = { s with bus := t.bus, transfers := t.transfers }
        ∧ t.transfers = { s.transfers with first := t.transfers.first, second := t.transfers.second }
        ∧ (∀ k, s.context k = none → t.context k = none)
        ∧ ∀ k x, s.context k = some x → ∃ y, t.context k = some y
          ∧ y = { x with slot := y.slot, armHoldSent := y.armHoldSent })
    ∧ LinesFollow s.setLines ∧ s.setLines = { s with attention := s.setLines.attention }
    ∧ s.finish = s.takeFireSlot.dispatchChoice.arbitrate.setLines

/-! ### Holds, pins and alarms (chapter 8) -/

/-- PIN adds the requesting port to the set of a used connection; a member that joins withdraws the connection's queued
balancer order. -/
def Obligations.PinJoinsAndWithdraws : Prop :=
  ∀ (s : State) (p : Port) (n : Byte), Ready s p →
    (64 ≤ n.toNat → exec (.pin p [n]) s = .next (answered (taken s p) p 0x98 0x14 []))
    ∧ ∀ c : ConnId, n.toNat = c.val →
      let x := s.conn c
      let pins := x.pins.put p true
      let u := withConn s c { x with pins := pins }
      if (s.config c).kind = .unused then exec (.pin p [n]) s = .next (answered (taken s p) p 0x98 0x14 [])
      else if x.pins.has p = true then
        exec (.pin p [n]) s = .next (answered (taken s p) p 0x98 0x00 [pinsCode x.pins])
      else ∃ t, exec (.pin p [n]) s = .next t ∧
        match s.queue.orders.find? fun o => o.conn == c with
        | some o =>
          if o.source = .balancer then Tail (answered (taken (removed u o .withdrawn) p) p 0x98 0x00 [pinsCode pins]) t
          else Tail (answered (taken u p) p 0x98 0x00 [pinsCode pins]) t
        | none => Tail (answered (taken u p) p 0x98 0x00 [pinsCode pins]) t

/-- UNPIN removes the requesting port alone from one set, UNPIN_ALL from every set; a member that leaves is followed by
the last parts of the event. -/
def Obligations.UnpinRemovesOwnPin : Prop :=
  ∀ (s : State) (p : Port), Ready s p →
    (∀ n : Byte, 64 ≤ n.toNat → exec (.unpin p [n]) s = .next (answered (taken s p) p 0x99 0x14 []))
    ∧ (∀ (n : Byte) (c : ConnId), n.toNat = c.val →
      let x := s.conn c
      let pins := x.pins.put p false
      if x.pins.has p = false then exec (.unpin p [n]) s = .next (answered (taken s p) p 0x99 0x00 [pinsCode x.pins])
      else ∃ t, exec (.unpin p [n]) s = .next t
        ∧ Tail (answered (taken (withConn s c { x with pins := pins }) p) p 0x99 0x00 [pinsCode pins]) t)
    ∧ (let held := (List.finRange 64).filter fun c => (s.conn c).pins.has p
       if held = [] then exec (.unpinAll p []) s = .next (answered (taken s p) p 0x9A 0x00 [0])
       else ∃ t, exec (.unpinAll p []) s = .next t
        ∧ Tail (answered (taken { s with conns := Vector.ofFn fun c =>
            { s.conn c with pins := (s.conn c).pins.put p false } } p) p 0x9A 0x00 [byteOf held.length]) t)

/-- HOLD adds the requesting port to the hold set. When the set was empty, the engine stops, and every context that is
neither FIRED nor with its FIRE outstanding is disarmed: it is released with its waiting request, its master order
returns to the queue in its place or its balancer order ends WITHDRAWN with a log record after the old ones, and a release
disarm is raised. HOLD_CHANGED is raised on every port, and exactly the last parts of the event follow, which dispatch no
order. When both orders end WITHDRAWN, which goes first is a free value (log entry 12). When the set was not empty, nothing
outside the set changes. -/
def Obligations.HoldStopsUnfiredTransfers : Prop :=
  ∀ (s : State) (p : Port), Ready s p → p ≠ .sp →
    let held := holdWith s.hold p true
    (s.hold ≠ ⟨false, false⟩ →
      exec (.hold p []) s = .next (answered (taken { s with hold := held } p) p 0xA0 0x00 [holdCode held]))
    ∧ (s.hold = ⟨false, false⟩ → OneOrderInAll s → ∃ t u, exec (.hold p []) s = .next t
        ∧ Disarmed { s with hold := held, engine := engineReviewed { s with hold := held } } u
        ∧ Tail (answered (taken { u with alarms := u.alarms.map fun v => { v with holdChanged := true } } p) p 0xA0 0x00
            [holdCode held]) t)
    ∧ (s.hold = ⟨false, false⟩ → ∃ t, exec (.hold p []) s = .next t
        ∧ t.hold = held ∧ Answers s t p 0xA0 0x00 [holdCode held] ∧ t.engine = engineReviewed { s with hold := held }
        ∧ OnlyFiredLeft s t
        ∧ (∀ k x, s.context k = some x → x.state = .fired ∨ s.fireOutstanding x = true →
            ∃ y, t.context k = some y ∧ y.order = x.order ∧ y.state = x.state)
        ∧ (∀ q a, (t.alarms.get q).has a = true ↔ (s.alarms.get q).has a = true ∨ a = .holdChanged)
        ∧ LinesFollow t
        ∧ t = { s with hold := t.hold, engine := t.engine, transfers := t.transfers, queue := t.queue,
                       conns := t.conns, bus := t.bus, log := t.log, alarms := t.alarms, attention := t.attention,
                       ports := t.ports })

/-- RELEASE removes the requesting port from the hold set. When that empties the set, HOLD_CHANGED is raised on every
port, the engine's stopping conditions are reviewed, and the last parts of the event follow. -/
def Obligations.ReleaseEndsTheHold : Prop :=
  ∀ (s : State) (p : Port), Ready s p → p ≠ .sp →
    let left := holdWith s.hold p false
    (s.hold = ⟨false, false⟩ ∨ left ≠ ⟨false, false⟩ →
      exec (.release p []) s = .next (answered (taken { s with hold := left } p) p 0xA1 0x00 [holdCode left]))
    ∧ (s.hold ≠ ⟨false, false⟩ → left = ⟨false, false⟩ → ∃ t, exec (.release p []) s = .next t
        ∧ Tail (answered (taken { s with
            hold := left
            alarms := s.alarms.map fun v => { v with holdChanged := true }
            engine := engineReviewed { s with hold := left } } p) p 0xA1 0x00 [holdCode left]) t)

/-- CLEAR_ALARMS removes the named conditions from the requesting port's set but for the level conditions whose cause is
live, SET_ALARM_MASK replaces the port's mask; both set the lines and touch nothing else. -/
def Obligations.AlarmRequestsTouchOnePort : Prop :=
  ∀ (s : State) (p : Port) (named : Byte), Ready s p →
    (∃ t, exec (.clearAlarms p [named]) s = .next t
      ∧ (∀ a, (t.alarms.get p).has a = true ↔ (s.alarms.get p).has a = true ∧
          ((alarmsNamed named).has a = false ∨ s.liveLevels.has a = true))
      ∧ (∀ q, q ≠ p → t.alarms.get q = s.alarms.get q) ∧ LinesFollow t
      ∧ Answers s t p 0xB0 0x00 [alarmsCode (t.alarms.get p)]
      ∧ t = { s with alarms := t.alarms, attention := t.attention, ports := t.ports })
    ∧ ∃ t, exec (.setAlarmMask p [named]) s = .next t
      ∧ t.settings = { s.settings with masks := s.settings.masks.set p (alarmsNamed named) } ∧ LinesFollow t
      ∧ Answers s t p 0xB1 0x00 [named]
      ∧ t = { s with settings := t.settings, attention := t.attention, ports := t.ports }

/-! ### Engine, faults, survey, settings, time -/

/-- PAUSE_BALANCER sets paused, RESUME_BALANCER clears it, and the engine's stopping conditions are reviewed; neither does
anything when paused stands so already. -/
def Obligations.PauseIsOneFlag : Prop :=
  ∀ (s : State) (p : Port), Ready s p → p ≠ .pp →
    (if s.engine.paused then exec (.pauseBalancer p []) s = .next (answered (taken s p) p 0xA8 0x00 [])
      else exec (.pauseBalancer p []) s = .next (answered (taken { s with
        engine := engineReviewed { s with engine := { s.engine with paused := true } } } p) p 0xA8 0x00 []))
    ∧ (if s.engine.paused then exec (.resumeBalancer p []) s = .next (answered (taken { s with
        engine := engineReviewed { s with engine := { s.engine with paused := false } } } p) p 0xA9 0x00 [])
      else exec (.resumeBalancer p []) s = .next (answered (taken s p) p 0xA9 0x00 []))

/-- CLEAR_FAULT returns a FAULTED connection to IDLE when its last poll report shows a closed phase and no contact
fault; every other FAULTED connection is NOT_READY, and one that is not FAULTED is answered OK. -/
def Obligations.ClearFaultNeedsAGoodReport : Prop :=
  ∀ (s : State) (p : Port) (n : Byte), Ready s p → p ≠ .pp →
    (64 ≤ n.toNat → exec (.clearFault p [n]) s = .next (answered (taken s p) p 0xAA 0x14 []))
    ∧ ∀ c : ConnId, n.toNat = c.val →
      let x := s.conn c
      if x.motion ≠ .faulted then exec (.clearFault p [n]) s = .next (answered (taken s p) p 0xAA 0x00 [])
      else if x.lastReport.any fun r => r.closedPhase.isSome && !r.contactFault then
        exec (.clearFault p [n]) s = .next (answered (taken
          (withConn s c { x with motion := .idle, faultCause := none }) p) p 0xAA 0x00 [])
      else exec (.clearFault p [n]) s = .next (answered (taken s p) p 0xAA 0x28 [])

/-- SURVEY starts a round over the used connections that are ABSENT or MISMATCH and restarts the survey timer; while a
round runs it is BUSY and changes nothing. -/
def Obligations.SurveyStartsOneRound : Prop :=
  ∀ (s : State) (p : Port), Ready s p → p ≠ .pp →
    if s.bus.surveyRunning then exec (.survey p []) s = .next (answered (taken s p) p 0xAB 0x26 [])
    else exec (.survey p []) s = .next (answered (State.arbitrate (taken { s with
      bus := { roundStarted s.bus (surveyList s) with surveyTimer := s.setting .surveyInterval } } p)) p 0xAB 0x02 [])

/-- WRITE_SETTING stores the value of R172 in the working settings and answers the value stored, OK_CLAMPED when it or
U_stop was adjusted; a number that names no setting or a value outside a list is BAD_VALUE, and a write during a save
is BUSY. A write of the balancer enable reviews the stopping conditions, one of the daily budget ends with the last
parts of an event. -/
def Obligations.SettingIsStored : Prop :=
  ∀ (s : State) (p : Port) (n a b c d : Byte), Ready s p → p ≠ .pp →
    let value := (fromFour a b c d).toInt
    (28 < n.toNat → exec (.writeSetting p [n, a, b, c, d]) s = .next (answered (taken s p) p 0xB8 0x13 []))
    ∧ ∀ id : SettingId, n.toNat = (settingRow id).number →
      match storedValue s.settings id value with
      | none => exec (.writeSetting p [n, a, b, c, d]) s = .next (answered (taken s p) p 0xB8 0x13 [])
      | some v =>
        if s.saving.isSome then exec (.writeSetting p [n, a, b, c, d]) s = .next (answered (taken s p) p 0xB8 0x26 [])
        else
          let w := { s with settings := settingStored s.settings id v }
          let u := if id = .balancerEnable then { w with engine := engineReviewed w } else w
          let adjusted := (v : Int) ≠ value ∨ id = .uStart ∧ v ≤ s.setting .uStop
          let base (status : Byte) : State := answered (taken u p) p 0xB8 status (fourOf v)
          ∃ t, exec (.writeSetting p [n, a, b, c, d]) s = .next t
            ∧ (adjusted → if id = .dailyBudget then Tail (base 0x01) t else t = base 0x01)
            ∧ (¬ adjusted → if id = .dailyBudget then Tail (base 0x00) t else t = base 0x00)

/-- WRITE_CONNECTION takes the three configuration fields of a connection without an order and outside a save, and resets
its identification by R20; every refusal leaves the record as it was. That a disarm waiting for a connection made UNUSED stays
in its slot is the model's reading (log entry 27), and the flag of the first sample after ABSENT, which the write clears, is
the model's own field (log entry 19). -/
def Obligations.ConnectionIsConfigured : Prop :=
  ∀ (s : State) (p : Port) (n kind allowed a b c d : Byte), Ready s p → p ≠ .pp →
    let run := exec (.writeConnection p [n, kind, allowed, a, b, c, d]) s
    let refused (status : Byte) : Prop := run = .next (answered (taken s p) p 0xB9 status [])
    (64 ≤ n.toNat → refused 0x14)
    ∧ ∀ conn : ConnId, n.toNat = conn.val →
      (3 < kind.toNat ∨ allowed.toNat = 0 ∨ 7 < allowed.toNat
        ∨ kind.toNat = 1 ∧ (allowed.toNat = 1 ∨ allowed.toNat = 2 ∨ allowed.toNat = 4) → refused 0x13)
      ∧ ∀ (k : Kind) (v : PhaseSet), kindCode k = kind → phasesCode v = allowed → v ≠ ⟨false, false, false⟩ →
        (k = .movable → 2 ≤ phaseCount v) →
        let x := s.conn conn
        let config : ConnConfig := ⟨k, v, fromFour a b c d⟩
        if x.motion = .queued ∨ x.motion = .arming ∨ x.motion = .armed ∨ x.motion = .fired ∨ s.saving.isSome = true then
          refused 0x26
        else run = .next (answered (taken { s with
          settings := { s.settings with conns := s.settings.conns.set conn config }
          conns := s.conns.set conn (rewritten x (s.config conn) config (s.setting .settleInterval)) } p) p 0xB9 0x00 [])

/-- WRITE_TRIGGER stores the six configuration fields with the threshold and the persistence clamped, sets the entry's
match count to 0 and clears its latch, and discards the pending trigger when it is the entry; its refusals leave the
entry as it was. -/
def Obligations.TriggerIsConfigured : Prop :=
  ∀ (s : State) (p : Port) (n enabled phases quantity comparison a b c d persistence : Byte), Ready s p → p ≠ .pp →
    let run := exec (.writeTrigger p [n, enabled, phases, quantity, comparison, a, b, c, d, persistence]) s
    let refused (status : Byte) : Prop := run = .next (answered (taken s p) p 0xBA status [])
    let threshold := (fromFour a b c d).toInt
    (8 ≤ n.toNat ∨ 4 < quantity.toNat ∨ 1 < comparison.toNat ∨ 7 < phases.toNat
      ∨ phases.toNat = 0 ∧ quantity.toNat ≠ 4 → refused 0x13)
    ∧ ∀ (i : TriggerId) (q : Quantity) (cmp : Comparison) (v : PhaseSet), n.toNat = i.val → quantityCode q = quantity →
      comparisonCode cmp = comparison → phasesCode v = phases → (v = ⟨false, false, false⟩ → q = .unbalance) →
      if s.saving.isSome then refused 0x26
      else
        let t := max (thresholdRange q).1 (min (thresholdRange q).2 threshold)
        let m := max 1 (min persistence.toNat 15)
        let config : TriggerConfig := ⟨enabled != 0, v, q, cmp, t, m⟩
        run = .next (answered (taken { s with
          settings := { s.settings with triggers := s.settings.triggers.set i config }
          engine := { s.engine with
            triggers := s.engine.triggers.set i ⟨0, false⟩
            pendingTrigger := if s.engine.pendingTrigger = some i then none else s.engine.pendingTrigger } } p) p 0xBA
          (if t = threshold ∧ m = persistence.toNat then 0x00 else 0x01) [])

/-- SET_TIME replaces part time; when the day number changes, transfers today is 0 for every connection and the last parts
of an event follow; nothing else changes. -/
def Obligations.TimeIsReplaced : Prop :=
  ∀ (s : State) (a b c d : Byte), Ready s .op →
    let time := fromFour a b c d
    if time.toNat / 86400 = s.partTime.toNat / 86400 then
      exec (.setTime .op [a, b, c, d]) s = .next (answered (taken { s with partTime := time } .op) .op 0xC0 0x00 [a, b, c, d])
    else ∃ t, exec (.setTime .op [a, b, c, d]) s = .next t
      ∧ Tail (answered (taken { s with
          partTime := time
          conns := Vector.ofFn fun i => { s.conn i with transfersToday := 0 } } .op) .op 0xC0 0x00 [a, b, c, d]) t

/-! ### Saving and restarting (R187, R189, R191, R192) -/

/-- SAVE_SETTINGS takes a copy of the working settings and is answered ACCEPTED; while a save is in progress it is BUSY.
SAVE_END stores the copy, which is then good, and clears the saving flag; exactly the last parts of the event follow, in
which a deferred restart that nothing else holds takes effect and reloads the copy. While a context still holds the
restart, it stays deferred and nothing else changes but by the other last parts. With no save in progress SAVE_END does
nothing (the model's choice, log entry 5); the restarted bus is that of log entries 10 and 22. -/
def Obligations.SavesKeepACopy : Prop :=
  (∀ (s : State) (p : Port), Ready s p → p ≠ .pp →
    if s.saving.isSome then exec (.saveSettings p []) s = .next (answered (taken s p) p 0xBB 0x26 [])
    else exec (.saveSettings p []) s =
      .next (answered (taken { s with saving := some s.settings } p) p 0xBB 0x02 []))
  ∧ ∀ s : State, s.powered = true →
    (s.saving = none → exec .saveEnd s = .next s)
    ∧ ∀ copy, s.saving = some copy →
      let u := { s with image := some copy, saving := none }
      ∃ t, exec .saveEnd s = .next t ∧ TransferTail u t ∧ t.image = some copy ∧ t.saving = none
        ∧ (s.restartDeferred = false ∨ RestartHeld u → Tail u t ∧ t.restartDeferred = s.restartDeferred)
        ∧ (s.restartDeferred = true → ¬ RestartHeld u → Restarted u t ∧ t.settings = copy
            ∧ ∀ p, portRestarted t.settings p (s.ports.get p) (t.ports.get p))

/-- RESTART is BUSY while one is deferred. Otherwise it sets the flag and disarms every context that is neither FIRED nor
has its FIRE outstanding, as a hold does: a master order returns to the queue in its place, a balancer order ends
WITHDRAWN with its log record, and a release disarm is raised; it is answered ACCEPTED, and exactly the last parts of the
event follow. While one of the other contexts stands, or a save is in progress, the restart stays deferred and nothing is
reloaded; else it takes effect at once. When both orders end WITHDRAWN, which goes first is a free value (log entry 12). -/
def Obligations.RestartIsDeferred : Prop :=
  ∀ (s : State) (p : Port), Ready s p → p ≠ .pp →
    (s.restartDeferred = true → exec (.restart p []) s = .next (answered (taken s p) p 0xBC 0x26 []))
    ∧ (s.restartDeferred = false → OneOrderInAll s → ∃ t u, exec (.restart p []) s = .next t
      ∧ Disarmed { s with restartDeferred := true } u ∧ TransferTail (answered (taken u p) p 0xBC 0x02 []) t)
    ∧ (s.restartDeferred = false → RestartHeld s → ∃ t, exec (.restart p []) s = .next t
      ∧ t.restartDeferred = true ∧ OnlyFiredLeft s t ∧ Answers s t p 0xBC 0x02 []
      ∧ (∀ k x, s.context k = some x → x.state = .fired ∨ s.fireOutstanding x = true →
          ∃ y, t.context k = some y ∧ y.order = x.order ∧ y.state = x.state)
      ∧ LinesFollow t
      ∧ t = { s with restartDeferred := true, engine := t.engine, transfers := t.transfers, queue := t.queue,
                     conns := t.conns, bus := t.bus, log := t.log, alarms := t.alarms, attention := t.attention,
                     ports := t.ports })
    ∧ (s.restartDeferred = false → ¬ RestartHeld s → ∃ t, exec (.restart p []) s = .next t
      ∧ t.restartDeferred = false ∧ t.settings = s.image.getD Settings.defaults ∧ t.queue = ⟨[], 0⟩
      ∧ t.transfers = ⟨none, none, none, 1⟩ ∧ t.partTime = s.partTime ∧ t.hold = s.hold
      ∧ (t.ports.get p).response = some [0xBC, 0x02])

/-- RESTART_TAKES_EFFECT, once a restart is deferred and nothing holds it: every queued order is cancelled with its log
record, in queue order, the image is reloaded, every block takes its restart values, and the rest is kept, the old log
records among it; otherwise nothing happens (the model's choice, log entry 8). The end of an event that ends a transfer,
a FIRE or a save does the same with a restart that nothing holds any more, and else ends as any other event does. That
the first survey poll carries the tag 0, and that the survey slot is empty after the last listed connection, are the model's
readings (log entries 10 and 22). -/
def Obligations.RestartReloads : Prop :=
  (∀ s : State, s.powered = true →
    (s.restartDeferred = true → ¬ RestartHeld s → ∃ t, exec .restartTakesEffect s = .next t ∧ Restarted s t
      ∧ ∀ p, portRestarted t.settings p (s.ports.get p) (t.ports.get p))
    ∧ (s.restartDeferred = false ∨ RestartHeld s → exec .restartTakesEffect s = .next s))
  ∧ ∀ s t : State, TransferTail s t →
    (s.restartDeferred = true → ¬ RestartHeld s → Restarted s t
      ∧ ∀ p, portRestarted t.settings p (s.ports.get p) (t.ports.get p))
    ∧ (s.restartDeferred = false ∨ RestartHeld s → Tail s t)

/-! ### The metering line and the engine (chapters 2 and 4) -/

/-- ACCEPTED_WINDOW takes a record in the stages of R26: the status is CURRENT, the timer restarts, the gap count
follows the sequence, every phase follows its sample, U follows the powers, and live phase flags raise their conditions.
The engine then handles the window in its four stages: the stopping conditions, the active flag, the trigger table, and
the work of its state, with the passes that fall due, their orders and their report. Exactly the last parts of the event
follow. That the window count returns to 0 with a deferral is the model's reading (log entry 13). -/
def Obligations.WindowUpdatesTheMeteringInput : Prop :=
  ∀ (s : State) (r : WindowRecord), s.powered = true → ∃ t, exec (.acceptedWindow r) s = .next t
    ∧ (let m := t.metering
       m.status = .current ∧ m.lost = false ∧ m.staleTimer = some (3 * s.setting .windowLength)
        ∧ m.lastSequence = r.sequence ∧ m.rx = none
        ∧ m.gapCount = (if s.metering.status = .current ∧ r.sequence ≠ s.metering.lastSequence + 1 then
            min (s.metering.gapCount + 1) 255 else s.metering.gapCount)
        ∧ (∀ q, phaseAfter s (s.metering.phases.get q) (m.phases.get q) (r.phases.get q))
        ∧ m.unbalance = indexOf ⟨m.phases.p1.power, m.phases.p2.power, m.phases.p3.power⟩ (s.setting .phaseRating))
    ∧ (∀ p a, (t.alarms.get p).has a = true ↔ (s.alarms.get p).has a = true
        ∨ a = .phaseLow ∧ (∃ q, (t.metering.phases.get q).liveLow = true)
        ∨ a = .phaseHigh ∧ ∃ q, (t.metering.phases.get q).liveHigh = true)
    ∧ LinesFollow t
    ∧ (∃ u, WindowHandled { s with metering := t.metering, alarms := t.alarms } u ∧ Tail u t)
    ∧ (∀ c, { t.conn c with motion := (s.conn c).motion } = s.conn c)
    ∧ t = { s with metering := t.metering, alarms := t.alarms, engine := t.engine, queue := t.queue, conns := t.conns,
                   bus := t.bus, transfers := t.transfers, attention := t.attention }

/-- STALENESS_EXPIRY of a running timer: the status is STALE, metering lost is set, every phase is UNUSABLE with its
counters at 0, the figures are kept, METERING_LOST is raised and the engine stops; of a stopped timer, nothing (that a
timer is held as running or stopped is the model's choice, log entry 5). -/
def Obligations.StalenessKeepsTheFigures : Prop :=
  ∀ s : State, s.powered = true →
    (s.metering.staleTimer = none → exec .stalenessExpiry s = .next s)
    ∧ (s.metering.staleTimer ≠ none →
      let m : Metering := { s.metering with
        status := .stale, lost := true, staleTimer := none,
        phases := s.metering.phases.map fun q => { q with holdover := .unusable, lowCount := 0, highCount := 0 } }
      ∃ t, exec .stalenessExpiry s = .next t ∧ t.metering = m ∧ t.engine = engineReviewed { s with metering := m }
        ∧ (∀ p a, (t.alarms.get p).has a = true ↔ (s.alarms.get p).has a = true ∨ a = .meteringLost) ∧ LinesFollow t
        ∧ t = { s with metering := t.metering, engine := t.engine, alarms := t.alarms, attention := t.attention })

/-- QUIET_COUNT_EXPIRY takes a QUIET engine to WATCH with the window count at the balance interval. The pass of a pending
trigger then falls due: it runs, with its orders and its report, or becomes the deferred pass while a transfer is in flight or
an order of priority 1 or more is queued. Exactly the last parts of the event follow. In another state nothing happens (that
the expiry comes as a command of its own is the model's choice, log entry 7; that the window count is 0 after the
deferral its reading, log entry 13). -/
def Obligations.QuietEndsInWatch : Prop :=
  ∀ s : State, s.powered = true →
    let watching : State := { s with engine := { s.engine with
      state := .watch, quietCount := 0, windowCount := s.setting .balanceInterval, pendingTrigger := none } }
    (s.engine.state ≠ .quiet → exec .quietCountExpiry s = .next s)
    ∧ (s.engine.state = .quiet → ∃ t, exec .quietCountExpiry s = .next t ∧
      match s.engine.pendingTrigger with
      | none => Tail watching t
      | some i => ∃ u, PassDue watching u (some i) ∧ Tail u t)

/-- A metering record whose CRC does not match, and a partial record that more than 50 ms follows, whenever its bytes came,
are dropped with no effect but that the line waits for a start byte again; a byte other than the start byte is then ignored.
Bytes that a row brings while part of a record is under assembly go on with it: they do what they do behind that part on a
line that waits. That a row carries the bytes received is the model's reading (log entry 9). -/
def Obligations.BadRecordsHaveNoEffect : Prop :=
  (∀ (s : State) (body : List Byte), s.powered = true → s.metering.rx = none →
    (∀ high low : Byte, body.length = 20 → crcOf body ≠ fromTwo high low →
      exec (.meteringRecordDropped (0x3C :: (body ++ [high, low]))) s = .next s)
    ∧ (body.length < 22 → exec (.meteringByteGap (0x3C :: body)) s = .next s
        ∧ exec (.meteringRecordDropped (0x3C :: body)) s =
            .next { s with metering := { s.metering with rx := some body } })
    ∧ exec (.meteringByteGap []) s = .next s
    ∧ ∀ b : Byte, b ≠ 0x3C →
        exec (.meteringRecordDropped (b :: body)) s = exec (.meteringRecordDropped body) s
        ∧ exec (.meteringByteGap (b :: body)) s = exec (.meteringByteGap body) s)
  ∧ ∀ (s : State) (got : List Byte), s.powered = true → s.metering.rx = some got →
    let waiting : State := { s with metering := { s.metering with rx := none } }
    exec (.meteringByteGap []) s = .next waiting
    ∧ (got.length < 22 → ∀ more : List Byte,
        exec (.meteringRecordDropped more) s = exec (.meteringRecordDropped (0x3C :: (got ++ more))) waiting
        ∧ exec (.meteringByteGap more) s = exec (.meteringByteGap (0x3C :: (got ++ more))) waiting)

/-- The metering window record is 23 bytes long: the start byte, the sequence, three phases of P, V and I, the valid bits
with the other bits of their byte ignored, and the CRC over bytes 1 to 20. Received one by one, its bytes are the
accepted window of its fields. That the row METERING_RECORD_DROPPED carries the bytes received, and that bytes which complete
a good record are its accepted window, is the model's reading (log entry 9). -/
def Obligations.RecordBytesGiveTheWindow : Prop :=
  ∀ (s : State) (r : WindowRecord) (valid : Byte), s.powered = true → s.metering.rx = none →
    valid.getLsbD 0 = r.phases.p1.valid → valid.getLsbD 1 = r.phases.p2.valid → valid.getLsbD 2 = r.phases.p3.valid →
    let figures (q : PhaseSample) : List Byte := twoBytes q.power ++ twoBytes q.voltage ++ twoBytes q.current
    let body := r.sequence :: (figures r.phases.p1 ++ figures r.phases.p2 ++ figures r.phases.p3 ++ [valid])
    let record := 0x3C :: (body ++ twoBytes (crcOf body))
    record.length = 23 ∧ exec (.meteringRecordDropped record) s = exec (.acceptedWindow r) s

/-- A pass considers exactly the connections that R17 lets in, with the four fields of R47. A candidate is admissible
exactly when its gain reaches the gain floor and its load the minimum load, consumption keeps its target within the
rating and off a live-low phase, export keeps off a live-high phase, and its connection was not chosen before. A step
chooses an admissible candidate of the largest gain, and of those the one whose connection has the fewest transfers today,
then the lowest number, then the lowest target phase; the search repeats the step from the powers its choice leaves, and
ends at the plan depth or at a step without an admissible candidate. A plan holds at most the plan depth of moves, each
of an eligible connection once, from its recorded phase to an allowed other phase, within the gain floor and the minimum
load; the moves keep the sum of the phase powers, and the final spread is the first less the gains. That a pass's orders
are the moves of this search WindowUpdatesTheMeteringInput states. -/
def Obligations.PlanKeepsItsLimits : Prop :=
  (∀ (s : State) (c : ConnId) (e : Machine.Eligible), s.eligible c = some e ↔
    ForPass s c ∧ (s.conn c).recordedPhase = some e.source ∧ e = asRead s c e.source)
  ∧ (∀ (i : PassInput) (powers : PerPhase Int) (chosen : List ConnId) (m : Candidate), m.target ≠ m.elig.source →
    let load := m.elig.load
    let after : PerPhase Int := PerPhase.set (PerPhase.set powers m.elig.source (powers.get m.elig.source - load))
      m.target (powers.get m.target + load)
    m.after powers = after ∧ m.gain powers = spread powers - spread after
    ∧ (m.admissible i powers chosen = true ↔
      (i.gainFloor : Int) ≤ spread powers - spread after ∧ i.minimumLoad ≤ load.natAbs
      ∧ (0 < load → powers.get m.target + load ≤ i.rating ∧ i.liveLow.get m.target = false)
      ∧ (load < 0 → i.liveHigh.get m.target = false) ∧ m.elig.conn ∉ chosen))
  ∧ (∀ (i : PassInput) (es : List Machine.Eligible) (powers : PerPhase Int) (chosen : List ConnId),
    let contender (m : Candidate) : Prop :=
      m.elig ∈ es ∧ m.elig.allowed.get m.target = true ∧ m.target ≠ m.elig.source ∧ m.admissible i powers chosen = true
    (choose i es powers chosen = none ↔ ∀ m, ¬ contender m)
    ∧ ∀ m, choose i es powers chosen = some m → contender m ∧ ∀ n, contender n →
        n.gain powers < m.gain powers
        ∨ n.gain powers = m.gain powers ∧ (m.elig.today < n.elig.today
          ∨ m.elig.today = n.elig.today ∧ (m.elig.conn < n.elig.conn
            ∨ m.elig.conn = n.elig.conn ∧ phaseNumber m.target ≤ phaseNumber n.target)))
  ∧ (∀ (i : PassInput) (es : List Machine.Eligible) (depth : Nat) (powers : PerPhase Int) (chosen : List ConnId),
    search i es 0 powers chosen = ⟨[], powers⟩
    ∧ (choose i es powers chosen = none → search i es (depth + 1) powers chosen = ⟨[], powers⟩)
    ∧ ∀ m, choose i es powers chosen = some m →
      let rest := search i es depth (m.after powers) (m.elig.conn :: chosen)
      search i es (depth + 1) powers chosen
        = ⟨⟨m.elig.conn, m.elig.source, m.target, m.gain powers⟩ :: rest.plan, rest.powers⟩)
  ∧ ∀ (i : PassInput) (es : List Machine.Eligible) (depth : Nat) (powers : PerPhase Int) (chosen : List ConnId),
    let r := search i es depth powers chosen
    r.plan.length ≤ depth
    ∧ (r.plan.map (·.conn)).Nodup
    ∧ (∀ m ∈ r.plan, m.conn ∉ chosen ∧ (i.gainFloor : Int) ≤ m.gain ∧ m.source ≠ m.target
        ∧ ∃ e ∈ es, e.conn = m.conn ∧ e.source = m.source ∧ e.allowed.get m.target = true
          ∧ i.minimumLoad ≤ e.load.natAbs)
    ∧ spread r.powers = spread powers - (r.plan.map (·.gain)).sum
    ∧ r.powers.p1 + r.powers.p2 + r.powers.p3 = powers.p1 + powers.p2 + powers.p3

/-! ### Replies and lapses on the selector bus (chapters 6 and 7) -/

/-- A frame that arrives with no request outstanding, or whose address, tag or kind does not answer the outstanding one,
is discarded, and so are bytes that are no complete reply frame with a matching CRC: another start byte, a CRC that does not
match, a kind code outside 0x81 to 0x88, a length that is not the kind's; no state changes. That a poll report
with a code outside the table of R178 is discarded like them is the model's reading (log entry 18), and so is that the row
BUS_FRAME_DISCARDED carries the bytes of the frame (log entry 9). The good reply of a connection made UNUSED since its
request was sent, whatever its kind, ends the request, and a survey round with nothing left on its list with it (log entry
17), and is discarded otherwise: exactly the last parts of the event follow. -/
def Obligations.FramesThatAnswerNothing : Prop :=
  (∀ (s : State) (a tag : Byte) (serial : Word) (report : PollReport) (reason : ArmRefusal), s.powered = true →
    (s.bus.outstanding = none
      ∨ ∃ o, s.bus.outstanding = some o ∧ (a.toNat ≠ o.conn.val + 1 ∨ tag ≠ o.tag)) →
    exec (.pollReply a tag serial report) s = .next s ∧ exec (.armedReply a tag serial) s = .next s
      ∧ exec (.armRefused a tag serial reason) s = .next s ∧ exec (.firingReply a tag serial) s = .next s
      ∧ exec (.notArmedReply a tag serial) s = .next s ∧ exec (.idleReply a tag serial) s = .next s)
  ∧ (∀ (s : State) (a tag : Byte) (serial : Word) (report : PollReport) (reason : ArmRefusal) (o : Outstanding),
      s.powered = true → s.bus.outstanding = some o →
      (o.request ≠ .poll → exec (.pollReply a tag serial report) s = .next s)
      ∧ ((∀ q d h, o.request ≠ .arm q d h) → exec (.armedReply a tag serial) s = .next s
          ∧ exec (.armRefused a tag serial reason) s = .next s)
      ∧ (o.request ≠ .fire → exec (.firingReply a tag serial) s = .next s
          ∧ exec (.notArmedReply a tag serial) s = .next s)
      ∧ (o.request ≠ .disarm → exec (.idleReply a tag serial) s = .next s))
  ∧ (∀ s : State, s.powered = true →
      let discarded (frame : List Byte) : Prop := exec (.busFrameDiscarded frame) s = .next s
      discarded [] ∧ (∀ (start : Byte) (rest : List Byte), start ≠ 0xC3 → discarded (start :: rest))
      ∧ (∀ (body : List Byte) (high low : Byte), crcOf body ≠ fromTwo high low → discarded (0xC3 :: (body ++ [high, low])))
      ∧ (∀ frame : List Byte, frame.length < 10 → discarded frame)
      ∧ (∀ (address tag kind high low : Byte) (content : List Byte),
        kind.toNat < 0x81 ∨ 0x88 < kind.toNat ∨ content.length ≠ (if kind = 0x81 then 11 else 4) →
          discarded (0xC3 :: address :: tag :: kind :: (content ++ [high, low])))
      ∧ ∀ (address tag a b c d closed unit target p q flags counter high low : Byte),
        3 < closed.toNat ∨ 3 < unit.toNat ∨ 3 < target.toNat →
          discarded [0xC3, address, tag, 0x81, a, b, c, d, closed, unit, target, p, q, flags, counter, high, low])
  ∧ ∀ (s : State) (o : Outstanding) (serial : Word) (report : PollReport) (reason : ArmRefusal), s.powered = true →
      s.bus.outstanding = some o → (s.config o.conn).kind = .unused →
      let ends (i : Instr) : Prop := ∃ t, exec i s = .next t ∧ TransferTail (freed s o) t
      (o.request = .poll → ends (.pollReply (unitAddress o.conn) o.tag serial report))
      ∧ (∀ q d h, o.request = .arm q d h → ends (.armedReply (unitAddress o.conn) o.tag serial)
          ∧ ends (.armRefused (unitAddress o.conn) o.tag serial reason))
      ∧ (o.request = .fire → ends (.firingReply (unitAddress o.conn) o.tag serial)
          ∧ ends (.notArmedReply (unitAddress o.conn) o.tag serial))
      ∧ (o.request = .disarm → ends (.idleReply (unitAddress o.conn) o.tag serial))

/-- The bytes of a bus frame are the reply of its fields: whatever reply a complete frame with a matching CRC carries, its
bytes do what the reply's row does. That the row BUS_FRAME_DISCARDED carries the bytes of the frame, and that bytes which
form a good reply are that reply, is the model's reading (log entry 9). -/
def Obligations.BusFrameBytesGiveTheReply : Prop :=
  ∀ (s : State) (address tag : Byte) (serial : Word) (report : PollReport) (reason : ArmRefusal), s.powered = true →
    exec (.busFrameDiscarded (replyFrame address tag serial (.poll report))) s
        = exec (.pollReply address tag serial report) s
    ∧ exec (.busFrameDiscarded (replyFrame address tag serial .armed)) s = exec (.armedReply address tag serial) s
    ∧ exec (.busFrameDiscarded (replyFrame address tag serial (.armRefused reason))) s
        = exec (.armRefused address tag serial reason) s
    ∧ exec (.busFrameDiscarded (replyFrame address tag serial .firing)) s = exec (.firingReply address tag serial) s
    ∧ exec (.busFrameDiscarded (replyFrame address tag serial .notArmed)) s
        = exec (.notArmedReply address tag serial) s
    ∧ exec (.busFrameDiscarded (replyFrame address tag serial .idle)) s = exec (.idleReply address tag serial) s

/-- A recognised reply to a routine or survey poll, or to a confirm poll of a released context: the request ends, and then
presence, the last poll report, the load estimate, the recorded phase with an observed local change, LOCAL and the stray
disarm, then the removal of a queued order, then exactly the last parts of the event. That SUPERSEDED goes before WITHDRAWN
where one reply causes both is the model's reading (log entry 14), and so is that a late reply of a request abandoned at a
restart is taken when it has the address, tag and kind of the first request after it (log entry 31). -/
def Obligations.PollReplyIsTaken : Prop :=
  ∀ (s : State) (o : Outstanding) (serial : Word) (r : PollReport) (y : Connection), s.powered = true →
    s.bus.outstanding = some o → o.request = .poll → RaisedByNoContext s o → (s.config o.conn).kind ≠ .unused →
    recognised s o.conn serial = some y →
    ∃ t, exec (.pollReply (unitAddress o.conn) o.tag serial r) s = .next t
      ∧ TransferTail (withRemoval (polled (freed s o) o.conn y r) o.conn (s.conn o.conn)) t

/-- What every reply but a recognised poll reply does when no transfer in flight raised its request, the contexts of ARM and
FIRE released since among them: the request ends and no context is acted on. A recognised reply writes the presence
machine's record alone, and a refusal with LOCAL adds LOCAL to it; a reply taken as a mismatch writes the serial, and at
entry to MISMATCH the rest of R123. Then a balancer order of a connection that left for ABSENT or MISMATCH ends NOT_PRESENT
and one of a connection that LOCAL joined ends WITHDRAWN, and exactly the last parts of the event follow. That LOCAL is added
also when the refusal took the connection out of ABSENT is the model's reading (log entry 28), and so is that a late reply of
a request abandoned at a restart is taken when it has the address, tag and kind of the first request after it (log entry
31). -/
def Obligations.RepliesFeedPresence : Prop :=
  ∀ (s : State) (o : Outstanding) (serial : Word) (r : PollReport), s.powered = true → s.bus.outstanding = some o →
    RaisedByNoContext s o → (s.config o.conn).kind ≠ .unused →
    let gives (i : Instr) (u : State) : Prop :=
      ∃ t, exec i s = .next t ∧ TransferTail (withRemoval u o.conn (s.conn o.conn)) t
    let armed : Instr := .armedReply (unitAddress o.conn) o.tag serial
    let refusal (reason : ArmRefusal) : Instr := .armRefused (unitAddress o.conn) o.tag serial reason
    let firing : Instr := .firingReply (unitAddress o.conn) o.tag serial
    let notArmed : Instr := .notArmedReply (unitAddress o.conn) o.tag serial
    let idle : Instr := .idleReply (unitAddress o.conn) o.tag serial
    (∀ y, recognised s o.conn serial = some y →
      let seen := withConn (freed s o) o.conn y
      (o.request = .disarm → gives idle seen)
      ∧ (o.request = .fire → gives firing seen ∧ gives notArmed seen)
      ∧ ∀ q dead hold, o.request = .arm q dead hold → gives armed seen ∧ gives (refusal .busy) seen
        ∧ gives (refusal .fault) seen
        ∧ gives (refusal .localSwitch)
            (withConn (freed s o) o.conn { y with pins := { y.pins with localSwitch := true } }))
    ∧ (recognised s o.conn serial = none →
      let strange := estranged (freed s o) o.conn serial
      (o.request = .disarm → gives idle strange)
      ∧ (o.request = .poll → gives (.pollReply (unitAddress o.conn) o.tag serial r) strange)
      ∧ (o.request = .fire → gives firing strange ∧ gives notArmed strange)
      ∧ ∀ q dead hold, o.request = .arm q dead hold → gives armed strange ∧ ∀ reason, gives (refusal reason) strange)

/-- A recognised reply to a confirm poll does what a poll reply does to the record, and ends the transfer as the table of
R142 decides, with the effects of R144, the release of the context and the fire slot among them; without a decision, or as
a mismatch, the context stays as it was. Exactly the last parts of the event follow; a restart that the transfer alone held
takes effect in them (step 8 of R144). -/
def Obligations.ConfirmPollDecides : Prop :=
  ∀ (s : State) (o : Outstanding) (k : CtxId) (x : Context) (serial : Word) (r : PollReport), s.powered = true →
    s.bus.outstanding = some o → o.request = .poll → RaisedBy s o k x → (s.config o.conn).kind ≠ .unused →
    (s.conn o.conn).motion = .fired →
    let base (u : State) : State := withRemoval u o.conn (s.conn o.conn)
    ∃ t, exec (.pollReply (unitAddress o.conn) o.tag serial r) s = .next t ∧
      match recognised s o.conn serial with
      | none => TransferTail (base (estranged (freed s o) o.conn serial)) t
      | some y =>
        let u := polled (freed s o) o.conn y r
        match confirmed x r with
        | none => TransferTail (base u) t
        | some (outcome, shown) =>
          TransferTail (base (ended u k x (confirmedRecord s (u.conn o.conn) outcome shown) outcome false)) t

/-- Replies to a context's ARM. ARMED makes the context ARMED and starts its arm deadline, and a free fire slot is taken
and FIRE sent in the same event; a refusal ends the transfer REFUSED, with LOCAL added or fault cause UNIT_FAULT; a
mismatch ends it REFUSED with a release disarm, whatever the reply carries; each end releases the context and is followed
by exactly the last parts of the event. That LOCAL is added also when the reply took the connection out of ABSENT, and that
the FIRE carries the tag as it stands, are the model's readings (log entries 28 and 10). -/
def Obligations.ArmReplies : Prop :=
  ∀ (s : State) (o : Outstanding) (k : CtxId) (x : Context) (serial : Word) (reason : ArmRefusal) (q : Phase)
    (dead hold : Nat), s.powered = true → s.bus.outstanding = some o → o.request = .arm q dead hold → RaisedBy s o k x →
    (s.config o.conn).kind ≠ .unused →
    let base (u : State) : State := withRemoval u o.conn (s.conn o.conn)
    match recognised s o.conn serial with
    | none =>
      let u := estranged (freed s o) o.conn serial
      (∃ t, exec (.armedReply (unitAddress o.conn) o.tag serial) s = .next t
        ∧ TransferTail (base (ended u k x (idled (u.conn o.conn)) .refused true)) t)
      ∧ ∃ t, exec (.armRefused (unitAddress o.conn) o.tag serial reason) s = .next t
        ∧ TransferTail (base (ended u k x (idled (u.conn o.conn)) .refused true)) t
    | some y =>
      (∃ t, exec (.armedReply (unitAddress o.conn) o.tag serial) s = .next t
        ∧ TransferTail (base (inContext (freed s o) k { x with state := .armed, armDeadline := x.armHoldSent } y .armed)) t
        ∧ (s.transfers.fireSlot = none → s.hold = ⟨false, false⟩ → s.restartDeferred = false →
            (∀ j z, s.context j = some z → j = k ∨ z.state ≠ .armed ∧ z.slot ≠ some .fire) →
            t.transfers.fireSlot = some k
              ∧ t.bus.outstanding = some ⟨o.conn, s.bus.tag, .fire, .context x.dispatchNumber⟩))
      ∧ ∃ t, exec (.armRefused (unitAddress o.conn) o.tag serial reason) s = .next t ∧
        match reason with
        | .localSwitch =>
          TransferTail (base (ended (freed s o) k x { y with pins := { y.pins with localSwitch := true }, motion := .idle }
            .refused false)) t
        | .busy => TransferTail (base (ended (freed s o) k x (idled y) .refused false)) t
        | .fault =>
          TransferTail (base (ended (freed s o) k x { y with motion := .faulted, faultCause := some .unitFault }
            .refused false)) t

/-- Replies to a context's FIRE. FIRING makes the context FIRED, a mismatch too. NOT_ARMED is answered by one re-ARM, and
REFUSED at a second; after a FIRE that lapsed it ends the transfer UNCONFIRMED; as a mismatch it ends it REFUSED; and
under a hold or a restart deferral a master order returns to the queue in its place and a balancer order ends WITHDRAWN,
both with a release disarm. A re-ARM and every end release the fire slot, and exactly the last parts of the event follow.
That a mismatch under a hold ends the transfer REFUSED is the model's reading (log entry 15). -/
def Obligations.FireReplies : Prop :=
  ∀ (s : State) (o : Outstanding) (k : CtxId) (x : Context) (serial : Word), s.powered = true →
    s.bus.outstanding = some o → o.request = .fire → RaisedBy s o k x → (s.config o.conn).kind ≠ .unused →
    s.queue.orders.all (fun q => q.conn != o.conn) = true →
    let base (u : State) : State := withRemoval u o.conn (s.conn o.conn)
    let seen := recognised s o.conn serial
    let u := match seen with | some y => withConn (freed s o) o.conn y | none => estranged (freed s o) o.conn serial
    let y := u.conn o.conn
    (∃ t, exec (.firingReply (unitAddress o.conn) o.tag serial) s = .next t
      ∧ TransferTail (base (inContext u k (firedContext s x) y .fired)) t)
    ∧ ∃ t, exec (.notArmedReply (unitAddress o.conn) o.tag serial) s = .next t ∧
      if x.fireRetried then TransferTail (base (ended u k x (unconfirmedRecord s y) .unconfirmed true)) t
      else if seen = none then TransferTail (base (ended u k x (idled y) .refused true)) t
      else if s.hold = ⟨false, false⟩ ∧ s.restartDeferred = false then
        if x.reArmUsed then TransferTail (base (ended u k x (idled y) .refused false)) t
        else
          let v := inContext u k { x with state := .arming, retries := 0, reArmUsed := true, slot := some .arm } y .arming
          TransferTail (base { v with transfers := { v.transfers with
            fireSlot := if s.transfers.fireSlot = some k then none else s.transfers.fireSlot } }) t
      else if x.order.source = .balancer then TransferTail (base (ended u k x (idled y) .withdrawn true)) t
      else TransferTail (base (returned u k x y)) t

/-- A lapse of a request that no transfer in flight raised, or of a confirm poll, is a lapse for presence and nothing
more; a connection lost to ABSENT has its balancer order removed NOT_PRESENT, and exactly the last parts of the event
follow. With no request outstanding, and for a connection made UNUSED since, presence is not touched (log entries 5 and
17). -/
def Obligations.LapsesFeedPresence : Prop :=
  ∀ s : State, s.powered = true →
    (s.bus.outstanding = none → exec .lapse s = .next s)
    ∧ ∀ o, s.bus.outstanding = some o → RaisedByNoContext s o ∨ o.request = .poll →
      ∃ t, exec .lapse s = .next t ∧
        if (s.config o.conn).kind = .unused then TransferTail (freed s o) t
        else TransferTail (withRemoval (lapsed (freed s o) o.conn) o.conn (s.conn o.conn)) t

/-- Lapses of a context's ARM and FIRE, each also a lapse for presence: ARM is raised again twice, then the transfer ends
NO_REPLY; FIRE is raised again once while no hold stands and no restart is deferred, else the transfer ends
UNCONFIRMED; both ends release the context and raise a release disarm. Exactly the last parts of the event follow. -/
def Obligations.LapsesOfArmAndFire : Prop :=
  ∀ (s : State) (o : Outstanding) (k : CtxId) (x : Context), s.powered = true → s.bus.outstanding = some o →
    RaisedBy s o k x → (s.config o.conn).kind ≠ .unused →
    let base (v : State) : State := withRemoval v o.conn (s.conn o.conn)
    let u := lapsed (freed s o) o.conn
    let y := u.conn o.conn
    (∀ q dead hold, o.request = .arm q dead hold → ∃ t, exec .lapse s = .next t ∧
      if x.retries < 2 then
        TransferTail (base { u with transfers := u.transfers.put k (some { x with
          retries := x.retries + 1, slot := some .arm }) }) t
      else TransferTail (base (ended u k x (idled y) .noReply true)) t)
    ∧ (o.request = .fire → ∃ t, exec .lapse s = .next t ∧
      if x.fireRetried = false ∧ s.hold = ⟨false, false⟩ ∧ s.restartDeferred = false then
        TransferTail (base { u with transfers := u.transfers.put k (some { x with
          fireRetried := true, slot := some .fire }) }) t
      else TransferTail (base (ended u k x (unconfirmedRecord s y) .unconfirmed true)) t)

/-! ### The arbiter, the rotation and the survey (R115 to R117) -/

/-- The arbiter's choice when the bus is free goes by class: FIRE; the release disarm of the earliest dispatch, then the
stray disarm of the lowest connection; confirm poll; ARM, with the settings in force; routine poll, of the rotation's
choice; survey poll, of the first listed connection that still qualifies. A granted request leaves its slot, and every
other request stays in its own: the states given are the whole states. A routine poll dropped for want of a member
leaves its slot and restarts its timer, and the survey class then chooses, which is the model's reading (log entry 30). That the request carries the tag as it stands,
which then advances, is the model's reading (log entry 10), and so is that the survey slot is empty once the last listed
connection has been taken (log entry 22). -/
def Obligations.ArbiterGrantsByClass : Prop :=
  ∀ s : State,
    let t := s.arbitrate
    let idle (r : CtxRequest) : Prop := ∀ k x, ¬ Waits s r k x
    let noRelease : Prop := ∀ c n, s.bus.disarmSlots.get c ≠ some (.release n)
    let noDisarm : Prop := ∀ c, s.bus.disarmSlots.get c = none
    (s.bus.outstanding.isSome = true → t = s)
    ∧ (s.bus.outstanding = none →
      (¬ idle .fire → ∃ k x, GoesFirst s .fire k x
        ∧ t = sent (withContext s k { x with slot := none }) x.order.conn .fire (.context x.dispatchNumber))
      ∧ (idle .fire → ¬ noRelease → ∃ c n, s.bus.disarmSlots.get c = some (.release n)
        ∧ (∀ d m, s.bus.disarmSlots.get d = some (.release m) → n ≤ m)
        ∧ t = sent (disarmTaken s c) c .disarm .disarmSlot)
      ∧ (idle .fire → noRelease → ¬ noDisarm → ∃ c, s.bus.disarmSlots.get c = some .stray
        ∧ (∀ d, s.bus.disarmSlots.get d = some .stray → c ≤ d)
        ∧ t = sent (disarmTaken s c) c .disarm .disarmSlot)
      ∧ (idle .fire → noDisarm → ¬ idle .confirm → ∃ k x, GoesFirst s .confirm k x
        ∧ t = sent (withContext s k { x with slot := none }) x.order.conn .poll (.context x.dispatchNumber))
      ∧ (idle .fire → noDisarm → idle .confirm → ¬ idle .arm → ∃ k x, GoesFirst s .arm k x
        ∧ t = sent (withContext s k { x with slot := none, armHoldSent := some (s.setting .armHold) }) x.order.conn
            (.arm x.order.target (s.setting .deadInterval) (s.setting .armHold)) (.context x.dispatchNumber))
      ∧ (idle .fire → noDisarm → idle .confirm → idle .arm →
        (s.bus.routineSlot = true → (∃ c, Rotates s c) → ∃ c, RotationTakes s c
          ∧ t = sent { routineTaken s with bus := { (routineTaken s).bus with position := some c } } c .poll .routine)
        ∧ (s.bus.routineSlot = false ∨ (∀ c, ¬ Rotates s c) →
          let v := if s.bus.routineSlot = true then routineTaken s else s
          (s.bus.surveySlot = false → t = v)
          ∧ (s.bus.surveySlot = true → (∀ c ∈ s.bus.surveyList, ¬ StillSurveyed s c) →
              t = { surveyLeft v [] with bus := { (surveyLeft v []).bus with surveyRunning := false } })
          ∧ (s.bus.surveySlot = true → ∀ before c after, s.bus.surveyList = before ++ c :: after →
              (∀ d ∈ before, ¬ StillSurveyed s d) → StillSurveyed s c →
              t = sent (surveyLeft v after) c .poll .survey))))

/-- ROUTINE_SPACING_EXPIRY of a running timer stops it and raises the routine poll; SURVEY_TIMER_EXPIRY starts a round if
none runs and restarts the timer; the arbiter ends each event. A timer that does not run has no effect, and what remains
of the survey count elapses at once (the model's choices, log entries 5 and 6). -/
def Obligations.BusTimersRaisePolls : Prop :=
  ∀ s : State, s.powered = true →
    exec .routineSpacingExpiry s = .next (if s.bus.routineTimer = none then s
      else State.arbitrate { s with bus := { s.bus with routineTimer := none, routineSlot := true } })
    ∧ exec .surveyTimerExpiry s = .next (State.arbitrate { s with bus :=
      { (if s.bus.surveyRunning then s.bus else roundStarted s.bus (surveyList s)) with
        surveyTimer := s.setting .surveyInterval } })

/-! ### Time (R185, R11, R121, R97, R137, R138, R143) -/

/-- ONE_SECOND_EVENT: part time advances by one; a new day clears every transfers-today; every settle and every ARRIVING
hold counts down, and a hold that ends makes its connection PRESENT; every queued order's life is lowered, and those at
0 are removed EXPIRED in queue order; the survey timer counts down, and at its end starts a round if none runs. Exactly
the last parts of the event follow. -/
def Obligations.OneSecondPasses : Prop :=
  ∀ s : State, s.powered = true → OneOrderEach s →
    let time := s.partTime + 1
    let newDay : Bool := time.toNat / 86400 != s.partTime.toNat / 86400
    let u := { s with
      partTime := time
      conns := Vector.ofFn fun c => { secondLater (s.conn c) with
        transfersToday := if newDay then 0 else (s.conn c).transfersToday }
      queue := { s.queue with orders := s.queue.orders.map fun o => { o with life := o.life - 1 } } }
    let v := (u.queue.orders.filter fun o => o.life == 0).foldl (fun w o => removed w o .expired) u
    let bus :=
      if 1 < s.bus.surveyTimer then { s.bus with surveyTimer := s.bus.surveyTimer - 1 }
      else { (if s.bus.surveyRunning then s.bus else roundStarted s.bus (surveyList u)) with
        surveyTimer := s.setting .surveyInterval }
    ∃ t, exec .oneSecondEvent s = .next t ∧ Tail { v with bus := bus } t

/-- The end of one count: an ARRIVING hold makes its connection PRESENT, a settle is 0, a queued order is removed EXPIRED,
each followed by the last parts of the event; a count that does not run has no effect (that what remains of one count
elapses at once is the model's choice, log entry 6). -/
def Obligations.CountsRunOut : Prop :=
  ∀ (s : State) (c : ConnId), s.powered = true →
    let x := s.conn c
    (x.presence ≠ .arriving → exec (.arrivalHoldExpiry c) s = .next s)
    ∧ (x.presence = .arriving → ∃ t, exec (.arrivalHoldExpiry c) s = .next t
      ∧ Tail (withConn s c { x with arrivalHold := 0, presence := .present }) t)
    ∧ (x.settle = 0 → exec (.settleExpiry c) s = .next s)
    ∧ (0 < x.settle → ∃ t, exec (.settleExpiry c) s = .next t ∧ Tail (withConn s c { x with settle := 0 }) t)
    ∧ match s.queue.orders.find? fun o => o.conn == c with
      | none => exec (.expired c) s = .next s
      | some o => ∃ t, exec (.expired c) s = .next t ∧ Tail (removed s o .expired) t

/-- ARM_DEADLINE_EXPIRY of an ARMED context waiting for the fire slot returns its order to the queue, where a balancer
order of a lost or pinned connection ends; CONFIRM_TIMER_EXPIRY of a FIRED one restarts its 100 ms and raises a confirm
poll unless its slot is taken or its request is outstanding; CONFIRM_DEADLINE_EXPIRY of a FIRED one ends the transfer
UNCONFIRMED, with the context and the fire slot released. Exactly the last parts of the event follow the two deadlines, and a
restart that the transfer alone held takes effect in them. A timer or deadline that does not run has no effect (log
entry 5), and a confirm poll that waits at the confirm deadline leaves its slot unsent with the context, which is the
model's reading (log entry 16). -/
def Obligations.ContextTimersExpire : Prop :=
  ∀ (s : State) (k : CtxId), s.powered = true →
    (s.context k = none → exec (.armDeadlineExpiry k) s = .next s ∧ exec (.confirmTimerExpiry k) s = .next s
      ∧ exec (.confirmDeadlineExpiry k) s = .next s)
    ∧ ∀ x, s.context k = some x →
      let c := x.order.conn
      let y := s.conn c
      (x.state ≠ .armed ∨ s.transfers.fireSlot = some k ∨ x.armDeadline = none →
        exec (.armDeadlineExpiry k) s = .next s)
      ∧ (x.state = .armed → s.transfers.fireSlot ≠ some k → x.armDeadline ≠ none →
        s.queue.orders.all (fun o => o.conn != c) = true → ∃ t, exec (.armDeadlineExpiry k) s = .next t ∧
          if x.order.source = .balancer ∧ (y.presence = .absent ∨ y.presence = .mismatch) then
            Tail (removed (returned s k x y) x.order .notPresent) t
          else if x.order.source = .balancer ∧ y.pins ≠ ⟨false, false, false, false⟩ then
            Tail (removed (returned s k x y) x.order .withdrawn) t
          else Tail (returned s k x y) t)
      ∧ (x.state ≠ .fired ∨ x.confirmTimer = none → exec (.confirmTimerExpiry k) s = .next s)
      ∧ (x.state = .fired → x.confirmTimer ≠ none →
        let busy : Prop := x.slot ≠ none ∨ ∃ o, s.bus.outstanding = some o ∧ o.raiser = .context x.dispatchNumber
        let ticked (slot : Option CtxRequest) : State :=
          { s with transfers := s.transfers.put k (some { x with confirmTimer := some 100, slot := slot }) }
        (busy → exec (.confirmTimerExpiry k) s = .next (State.arbitrate (ticked x.slot)))
        ∧ (¬ busy → exec (.confirmTimerExpiry k) s = .next (State.arbitrate (ticked (some .confirm)))))
      ∧ (x.state ≠ .fired ∨ x.confirmDeadline = none → exec (.confirmDeadlineExpiry k) s = .next s)
      ∧ (x.state = .fired → x.confirmDeadline ≠ none →
        ∃ t, exec (.confirmDeadlineExpiry k) s = .next t
          ∧ TransferTail (ended s k x (unconfirmedRecord s y) .unconfirmed false) t)

/-! ### Invariants that every step keeps, and the reset state -/

/-- A port's attention line is asserted exactly while its alarm set and its mask share a condition, after every step. -/
def Obligations.EveryStepKeepsTheLines : Prop :=
  ∀ s t : State, LinesFollow s → step s = .next t → LinesFollow t

/-- The move log holds at most 64 records whose sequence numbers are consecutive, after every step. -/
def Obligations.EveryStepKeepsTheLog : Prop :=
  ∀ s t : State, LogConsecutive s → step s = .next t → LogConsecutive t

/-- Every setting lies in its range, in the working settings, the image and a save's copy, after every step. -/
def Obligations.EveryStepKeepsTheSettings : Prop :=
  ∀ s t : State, AllSettingsSound s → step s = .next t → AllSettingsSound t

/-- The move queue and the transfer contexts agree after every step: at most 16 orders and one for a connection, at most
one context FIRED, the fire slot its holder's. -/
def Obligations.EveryStepKeepsTheOrders : Prop :=
  ∀ s t : State, OrdersSound s → step s = .next t → OrdersSound t

/-- The reset state meets the four invariants. -/
def Obligations.ResetMeetsTheInvariants : Prop :=
  LinesFollow State.reset ∧ LogConsecutive State.reset ∧ AllSettingsSound State.reset ∧ OrdersSound State.reset
end

