-- ==== Sys2Proof/Laws/State.lean ====
section
/-!
SUPPORT. One lemma per field and update of State, each true by unfolding: what an update writes, and that it leaves every
other field as it was.
-/

namespace Sys2Proof.Machine

/-! ### `State.withPending` -/

@[simp] theorem State.withPending_pending (s : State) (x : List Instr) : (s.withPending x).pending = x := rfl
@[simp] theorem State.withPending_powered (s : State) (x : List Instr) : (s.withPending x).powered = s.powered := rfl
@[simp] theorem State.withPending_settings (s : State) (x : List Instr) : (s.withPending x).settings = s.settings := rfl
@[simp] theorem State.withPending_image (s : State) (x : List Instr) : (s.withPending x).image = s.image := rfl
@[simp] theorem State.withPending_saving (s : State) (x : List Instr) : (s.withPending x).saving = s.saving := rfl
@[simp] theorem State.withPending_restartDeferred (s : State) (x : List Instr) : (s.withPending x).restartDeferred = s.restartDeferred := rfl
@[simp] theorem State.withPending_partTime (s : State) (x : List Instr) : (s.withPending x).partTime = s.partTime := rfl
@[simp] theorem State.withPending_conns (s : State) (x : List Instr) : (s.withPending x).conns = s.conns := rfl
@[simp] theorem State.withPending_metering (s : State) (x : List Instr) : (s.withPending x).metering = s.metering := rfl
@[simp] theorem State.withPending_engine (s : State) (x : List Instr) : (s.withPending x).engine = s.engine := rfl
@[simp] theorem State.withPending_queue (s : State) (x : List Instr) : (s.withPending x).queue = s.queue := rfl
@[simp] theorem State.withPending_bus (s : State) (x : List Instr) : (s.withPending x).bus = s.bus := rfl
@[simp] theorem State.withPending_transfers (s : State) (x : List Instr) : (s.withPending x).transfers = s.transfers := rfl
@[simp] theorem State.withPending_hold (s : State) (x : List Instr) : (s.withPending x).hold = s.hold := rfl
@[simp] theorem State.withPending_alarms (s : State) (x : List Instr) : (s.withPending x).alarms = s.alarms := rfl
@[simp] theorem State.withPending_attention (s : State) (x : List Instr) : (s.withPending x).attention = s.attention := rfl
@[simp] theorem State.withPending_log (s : State) (x : List Instr) : (s.withPending x).log = s.log := rfl
@[simp] theorem State.withPending_ports (s : State) (x : List Instr) : (s.withPending x).ports = s.ports := rfl

/-! ### `State.withPowered` -/

@[simp] theorem State.withPowered_pending (s : State) (x : Bool) : (s.withPowered x).pending = s.pending := rfl
@[simp] theorem State.withPowered_powered (s : State) (x : Bool) : (s.withPowered x).powered = x := rfl
@[simp] theorem State.withPowered_settings (s : State) (x : Bool) : (s.withPowered x).settings = s.settings := rfl
@[simp] theorem State.withPowered_image (s : State) (x : Bool) : (s.withPowered x).image = s.image := rfl
@[simp] theorem State.withPowered_saving (s : State) (x : Bool) : (s.withPowered x).saving = s.saving := rfl
@[simp] theorem State.withPowered_restartDeferred (s : State) (x : Bool) : (s.withPowered x).restartDeferred = s.restartDeferred := rfl
@[simp] theorem State.withPowered_partTime (s : State) (x : Bool) : (s.withPowered x).partTime = s.partTime := rfl
@[simp] theorem State.withPowered_conns (s : State) (x : Bool) : (s.withPowered x).conns = s.conns := rfl
@[simp] theorem State.withPowered_metering (s : State) (x : Bool) : (s.withPowered x).metering = s.metering := rfl
@[simp] theorem State.withPowered_engine (s : State) (x : Bool) : (s.withPowered x).engine = s.engine := rfl
@[simp] theorem State.withPowered_queue (s : State) (x : Bool) : (s.withPowered x).queue = s.queue := rfl
@[simp] theorem State.withPowered_bus (s : State) (x : Bool) : (s.withPowered x).bus = s.bus := rfl
@[simp] theorem State.withPowered_transfers (s : State) (x : Bool) : (s.withPowered x).transfers = s.transfers := rfl
@[simp] theorem State.withPowered_hold (s : State) (x : Bool) : (s.withPowered x).hold = s.hold := rfl
@[simp] theorem State.withPowered_alarms (s : State) (x : Bool) : (s.withPowered x).alarms = s.alarms := rfl
@[simp] theorem State.withPowered_attention (s : State) (x : Bool) : (s.withPowered x).attention = s.attention := rfl
@[simp] theorem State.withPowered_log (s : State) (x : Bool) : (s.withPowered x).log = s.log := rfl
@[simp] theorem State.withPowered_ports (s : State) (x : Bool) : (s.withPowered x).ports = s.ports := rfl

/-! ### `State.withSettings` -/

@[simp] theorem State.withSettings_pending (s : State) (x : Settings) : (s.withSettings x).pending = s.pending := rfl
@[simp] theorem State.withSettings_powered (s : State) (x : Settings) : (s.withSettings x).powered = s.powered := rfl
@[simp] theorem State.withSettings_settings (s : State) (x : Settings) : (s.withSettings x).settings = x := rfl
@[simp] theorem State.withSettings_image (s : State) (x : Settings) : (s.withSettings x).image = s.image := rfl
@[simp] theorem State.withSettings_saving (s : State) (x : Settings) : (s.withSettings x).saving = s.saving := rfl
@[simp] theorem State.withSettings_restartDeferred (s : State) (x : Settings) : (s.withSettings x).restartDeferred = s.restartDeferred := rfl
@[simp] theorem State.withSettings_partTime (s : State) (x : Settings) : (s.withSettings x).partTime = s.partTime := rfl
@[simp] theorem State.withSettings_conns (s : State) (x : Settings) : (s.withSettings x).conns = s.conns := rfl
@[simp] theorem State.withSettings_metering (s : State) (x : Settings) : (s.withSettings x).metering = s.metering := rfl
@[simp] theorem State.withSettings_engine (s : State) (x : Settings) : (s.withSettings x).engine = s.engine := rfl
@[simp] theorem State.withSettings_queue (s : State) (x : Settings) : (s.withSettings x).queue = s.queue := rfl
@[simp] theorem State.withSettings_bus (s : State) (x : Settings) : (s.withSettings x).bus = s.bus := rfl
@[simp] theorem State.withSettings_transfers (s : State) (x : Settings) : (s.withSettings x).transfers = s.transfers := rfl
@[simp] theorem State.withSettings_hold (s : State) (x : Settings) : (s.withSettings x).hold = s.hold := rfl
@[simp] theorem State.withSettings_alarms (s : State) (x : Settings) : (s.withSettings x).alarms = s.alarms := rfl
@[simp] theorem State.withSettings_attention (s : State) (x : Settings) : (s.withSettings x).attention = s.attention := rfl
@[simp] theorem State.withSettings_log (s : State) (x : Settings) : (s.withSettings x).log = s.log := rfl
@[simp] theorem State.withSettings_ports (s : State) (x : Settings) : (s.withSettings x).ports = s.ports := rfl

/-! ### `State.withImage` -/

@[simp] theorem State.withImage_pending (s : State) (x : Option Settings) : (s.withImage x).pending = s.pending := rfl
@[simp] theorem State.withImage_powered (s : State) (x : Option Settings) : (s.withImage x).powered = s.powered := rfl
@[simp] theorem State.withImage_settings (s : State) (x : Option Settings) : (s.withImage x).settings = s.settings := rfl
@[simp] theorem State.withImage_image (s : State) (x : Option Settings) : (s.withImage x).image = x := rfl
@[simp] theorem State.withImage_saving (s : State) (x : Option Settings) : (s.withImage x).saving = s.saving := rfl
@[simp] theorem State.withImage_restartDeferred (s : State) (x : Option Settings) : (s.withImage x).restartDeferred = s.restartDeferred := rfl
@[simp] theorem State.withImage_partTime (s : State) (x : Option Settings) : (s.withImage x).partTime = s.partTime := rfl
@[simp] theorem State.withImage_conns (s : State) (x : Option Settings) : (s.withImage x).conns = s.conns := rfl
@[simp] theorem State.withImage_metering (s : State) (x : Option Settings) : (s.withImage x).metering = s.metering := rfl
@[simp] theorem State.withImage_engine (s : State) (x : Option Settings) : (s.withImage x).engine = s.engine := rfl
@[simp] theorem State.withImage_queue (s : State) (x : Option Settings) : (s.withImage x).queue = s.queue := rfl
@[simp] theorem State.withImage_bus (s : State) (x : Option Settings) : (s.withImage x).bus = s.bus := rfl
@[simp] theorem State.withImage_transfers (s : State) (x : Option Settings) : (s.withImage x).transfers = s.transfers := rfl
@[simp] theorem State.withImage_hold (s : State) (x : Option Settings) : (s.withImage x).hold = s.hold := rfl
@[simp] theorem State.withImage_alarms (s : State) (x : Option Settings) : (s.withImage x).alarms = s.alarms := rfl
@[simp] theorem State.withImage_attention (s : State) (x : Option Settings) : (s.withImage x).attention = s.attention := rfl
@[simp] theorem State.withImage_log (s : State) (x : Option Settings) : (s.withImage x).log = s.log := rfl
@[simp] theorem State.withImage_ports (s : State) (x : Option Settings) : (s.withImage x).ports = s.ports := rfl

/-! ### `State.withSaving` -/

@[simp] theorem State.withSaving_pending (s : State) (x : Option Settings) : (s.withSaving x).pending = s.pending := rfl
@[simp] theorem State.withSaving_powered (s : State) (x : Option Settings) : (s.withSaving x).powered = s.powered := rfl
@[simp] theorem State.withSaving_settings (s : State) (x : Option Settings) : (s.withSaving x).settings = s.settings := rfl
@[simp] theorem State.withSaving_image (s : State) (x : Option Settings) : (s.withSaving x).image = s.image := rfl
@[simp] theorem State.withSaving_saving (s : State) (x : Option Settings) : (s.withSaving x).saving = x := rfl
@[simp] theorem State.withSaving_restartDeferred (s : State) (x : Option Settings) : (s.withSaving x).restartDeferred = s.restartDeferred := rfl
@[simp] theorem State.withSaving_partTime (s : State) (x : Option Settings) : (s.withSaving x).partTime = s.partTime := rfl
@[simp] theorem State.withSaving_conns (s : State) (x : Option Settings) : (s.withSaving x).conns = s.conns := rfl
@[simp] theorem State.withSaving_metering (s : State) (x : Option Settings) : (s.withSaving x).metering = s.metering := rfl
@[simp] theorem State.withSaving_engine (s : State) (x : Option Settings) : (s.withSaving x).engine = s.engine := rfl
@[simp] theorem State.withSaving_queue (s : State) (x : Option Settings) : (s.withSaving x).queue = s.queue := rfl
@[simp] theorem State.withSaving_bus (s : State) (x : Option Settings) : (s.withSaving x).bus = s.bus := rfl
@[simp] theorem State.withSaving_transfers (s : State) (x : Option Settings) : (s.withSaving x).transfers = s.transfers := rfl
@[simp] theorem State.withSaving_hold (s : State) (x : Option Settings) : (s.withSaving x).hold = s.hold := rfl
@[simp] theorem State.withSaving_alarms (s : State) (x : Option Settings) : (s.withSaving x).alarms = s.alarms := rfl
@[simp] theorem State.withSaving_attention (s : State) (x : Option Settings) : (s.withSaving x).attention = s.attention := rfl
@[simp] theorem State.withSaving_log (s : State) (x : Option Settings) : (s.withSaving x).log = s.log := rfl
@[simp] theorem State.withSaving_ports (s : State) (x : Option Settings) : (s.withSaving x).ports = s.ports := rfl

/-! ### `State.withRestartDeferred` -/

@[simp] theorem State.withRestartDeferred_pending (s : State) (x : Bool) : (s.withRestartDeferred x).pending = s.pending := rfl
@[simp] theorem State.withRestartDeferred_powered (s : State) (x : Bool) : (s.withRestartDeferred x).powered = s.powered := rfl
@[simp] theorem State.withRestartDeferred_settings (s : State) (x : Bool) : (s.withRestartDeferred x).settings = s.settings := rfl
@[simp] theorem State.withRestartDeferred_image (s : State) (x : Bool) : (s.withRestartDeferred x).image = s.image := rfl
@[simp] theorem State.withRestartDeferred_saving (s : State) (x : Bool) : (s.withRestartDeferred x).saving = s.saving := rfl
@[simp] theorem State.withRestartDeferred_restartDeferred (s : State) (x : Bool) : (s.withRestartDeferred x).restartDeferred = x := rfl
@[simp] theorem State.withRestartDeferred_partTime (s : State) (x : Bool) : (s.withRestartDeferred x).partTime = s.partTime := rfl
@[simp] theorem State.withRestartDeferred_conns (s : State) (x : Bool) : (s.withRestartDeferred x).conns = s.conns := rfl
@[simp] theorem State.withRestartDeferred_metering (s : State) (x : Bool) : (s.withRestartDeferred x).metering = s.metering := rfl
@[simp] theorem State.withRestartDeferred_engine (s : State) (x : Bool) : (s.withRestartDeferred x).engine = s.engine := rfl
@[simp] theorem State.withRestartDeferred_queue (s : State) (x : Bool) : (s.withRestartDeferred x).queue = s.queue := rfl
@[simp] theorem State.withRestartDeferred_bus (s : State) (x : Bool) : (s.withRestartDeferred x).bus = s.bus := rfl
@[simp] theorem State.withRestartDeferred_transfers (s : State) (x : Bool) : (s.withRestartDeferred x).transfers = s.transfers := rfl
@[simp] theorem State.withRestartDeferred_hold (s : State) (x : Bool) : (s.withRestartDeferred x).hold = s.hold := rfl
@[simp] theorem State.withRestartDeferred_alarms (s : State) (x : Bool) : (s.withRestartDeferred x).alarms = s.alarms := rfl
@[simp] theorem State.withRestartDeferred_attention (s : State) (x : Bool) : (s.withRestartDeferred x).attention = s.attention := rfl
@[simp] theorem State.withRestartDeferred_log (s : State) (x : Bool) : (s.withRestartDeferred x).log = s.log := rfl
@[simp] theorem State.withRestartDeferred_ports (s : State) (x : Bool) : (s.withRestartDeferred x).ports = s.ports := rfl

/-! ### `State.withPartTime` -/

@[simp] theorem State.withPartTime_pending (s : State) (x : Word) : (s.withPartTime x).pending = s.pending := rfl
@[simp] theorem State.withPartTime_powered (s : State) (x : Word) : (s.withPartTime x).powered = s.powered := rfl
@[simp] theorem State.withPartTime_settings (s : State) (x : Word) : (s.withPartTime x).settings = s.settings := rfl
@[simp] theorem State.withPartTime_image (s : State) (x : Word) : (s.withPartTime x).image = s.image := rfl
@[simp] theorem State.withPartTime_saving (s : State) (x : Word) : (s.withPartTime x).saving = s.saving := rfl
@[simp] theorem State.withPartTime_restartDeferred (s : State) (x : Word) : (s.withPartTime x).restartDeferred = s.restartDeferred := rfl
@[simp] theorem State.withPartTime_partTime (s : State) (x : Word) : (s.withPartTime x).partTime = x := rfl
@[simp] theorem State.withPartTime_conns (s : State) (x : Word) : (s.withPartTime x).conns = s.conns := rfl
@[simp] theorem State.withPartTime_metering (s : State) (x : Word) : (s.withPartTime x).metering = s.metering := rfl
@[simp] theorem State.withPartTime_engine (s : State) (x : Word) : (s.withPartTime x).engine = s.engine := rfl
@[simp] theorem State.withPartTime_queue (s : State) (x : Word) : (s.withPartTime x).queue = s.queue := rfl
@[simp] theorem State.withPartTime_bus (s : State) (x : Word) : (s.withPartTime x).bus = s.bus := rfl
@[simp] theorem State.withPartTime_transfers (s : State) (x : Word) : (s.withPartTime x).transfers = s.transfers := rfl
@[simp] theorem State.withPartTime_hold (s : State) (x : Word) : (s.withPartTime x).hold = s.hold := rfl
@[simp] theorem State.withPartTime_alarms (s : State) (x : Word) : (s.withPartTime x).alarms = s.alarms := rfl
@[simp] theorem State.withPartTime_attention (s : State) (x : Word) : (s.withPartTime x).attention = s.attention := rfl
@[simp] theorem State.withPartTime_log (s : State) (x : Word) : (s.withPartTime x).log = s.log := rfl
@[simp] theorem State.withPartTime_ports (s : State) (x : Word) : (s.withPartTime x).ports = s.ports := rfl

/-! ### `State.withConns` -/

@[simp] theorem State.withConns_pending (s : State) (x : Vector Connection 64) : (s.withConns x).pending = s.pending := rfl
@[simp] theorem State.withConns_powered (s : State) (x : Vector Connection 64) : (s.withConns x).powered = s.powered := rfl
@[simp] theorem State.withConns_settings (s : State) (x : Vector Connection 64) : (s.withConns x).settings = s.settings := rfl
@[simp] theorem State.withConns_image (s : State) (x : Vector Connection 64) : (s.withConns x).image = s.image := rfl
@[simp] theorem State.withConns_saving (s : State) (x : Vector Connection 64) : (s.withConns x).saving = s.saving := rfl
@[simp] theorem State.withConns_restartDeferred (s : State) (x : Vector Connection 64) : (s.withConns x).restartDeferred = s.restartDeferred := rfl
@[simp] theorem State.withConns_partTime (s : State) (x : Vector Connection 64) : (s.withConns x).partTime = s.partTime := rfl
@[simp] theorem State.withConns_conns (s : State) (x : Vector Connection 64) : (s.withConns x).conns = x := rfl
@[simp] theorem State.withConns_metering (s : State) (x : Vector Connection 64) : (s.withConns x).metering = s.metering := rfl
@[simp] theorem State.withConns_engine (s : State) (x : Vector Connection 64) : (s.withConns x).engine = s.engine := rfl
@[simp] theorem State.withConns_queue (s : State) (x : Vector Connection 64) : (s.withConns x).queue = s.queue := rfl
@[simp] theorem State.withConns_bus (s : State) (x : Vector Connection 64) : (s.withConns x).bus = s.bus := rfl
@[simp] theorem State.withConns_transfers (s : State) (x : Vector Connection 64) : (s.withConns x).transfers = s.transfers := rfl
@[simp] theorem State.withConns_hold (s : State) (x : Vector Connection 64) : (s.withConns x).hold = s.hold := rfl
@[simp] theorem State.withConns_alarms (s : State) (x : Vector Connection 64) : (s.withConns x).alarms = s.alarms := rfl
@[simp] theorem State.withConns_attention (s : State) (x : Vector Connection 64) : (s.withConns x).attention = s.attention := rfl
@[simp] theorem State.withConns_log (s : State) (x : Vector Connection 64) : (s.withConns x).log = s.log := rfl
@[simp] theorem State.withConns_ports (s : State) (x : Vector Connection 64) : (s.withConns x).ports = s.ports := rfl

/-! ### `State.withMetering` -/

@[simp] theorem State.withMetering_pending (s : State) (x : Metering) : (s.withMetering x).pending = s.pending := rfl
@[simp] theorem State.withMetering_powered (s : State) (x : Metering) : (s.withMetering x).powered = s.powered := rfl
@[simp] theorem State.withMetering_settings (s : State) (x : Metering) : (s.withMetering x).settings = s.settings := rfl
@[simp] theorem State.withMetering_image (s : State) (x : Metering) : (s.withMetering x).image = s.image := rfl
@[simp] theorem State.withMetering_saving (s : State) (x : Metering) : (s.withMetering x).saving = s.saving := rfl
@[simp] theorem State.withMetering_restartDeferred (s : State) (x : Metering) : (s.withMetering x).restartDeferred = s.restartDeferred := rfl
@[simp] theorem State.withMetering_partTime (s : State) (x : Metering) : (s.withMetering x).partTime = s.partTime := rfl
@[simp] theorem State.withMetering_conns (s : State) (x : Metering) : (s.withMetering x).conns = s.conns := rfl
@[simp] theorem State.withMetering_metering (s : State) (x : Metering) : (s.withMetering x).metering = x := rfl
@[simp] theorem State.withMetering_engine (s : State) (x : Metering) : (s.withMetering x).engine = s.engine := rfl
@[simp] theorem State.withMetering_queue (s : State) (x : Metering) : (s.withMetering x).queue = s.queue := rfl
@[simp] theorem State.withMetering_bus (s : State) (x : Metering) : (s.withMetering x).bus = s.bus := rfl
@[simp] theorem State.withMetering_transfers (s : State) (x : Metering) : (s.withMetering x).transfers = s.transfers := rfl
@[simp] theorem State.withMetering_hold (s : State) (x : Metering) : (s.withMetering x).hold = s.hold := rfl
@[simp] theorem State.withMetering_alarms (s : State) (x : Metering) : (s.withMetering x).alarms = s.alarms := rfl
@[simp] theorem State.withMetering_attention (s : State) (x : Metering) : (s.withMetering x).attention = s.attention := rfl
@[simp] theorem State.withMetering_log (s : State) (x : Metering) : (s.withMetering x).log = s.log := rfl
@[simp] theorem State.withMetering_ports (s : State) (x : Metering) : (s.withMetering x).ports = s.ports := rfl

/-! ### `State.withEngine` -/

@[simp] theorem State.withEngine_pending (s : State) (x : Engine) : (s.withEngine x).pending = s.pending := rfl
@[simp] theorem State.withEngine_powered (s : State) (x : Engine) : (s.withEngine x).powered = s.powered := rfl
@[simp] theorem State.withEngine_settings (s : State) (x : Engine) : (s.withEngine x).settings = s.settings := rfl
@[simp] theorem State.withEngine_image (s : State) (x : Engine) : (s.withEngine x).image = s.image := rfl
@[simp] theorem State.withEngine_saving (s : State) (x : Engine) : (s.withEngine x).saving = s.saving := rfl
@[simp] theorem State.withEngine_restartDeferred (s : State) (x : Engine) : (s.withEngine x).restartDeferred = s.restartDeferred := rfl
@[simp] theorem State.withEngine_partTime (s : State) (x : Engine) : (s.withEngine x).partTime = s.partTime := rfl
@[simp] theorem State.withEngine_conns (s : State) (x : Engine) : (s.withEngine x).conns = s.conns := rfl
@[simp] theorem State.withEngine_metering (s : State) (x : Engine) : (s.withEngine x).metering = s.metering := rfl
@[simp] theorem State.withEngine_engine (s : State) (x : Engine) : (s.withEngine x).engine = x := rfl
@[simp] theorem State.withEngine_queue (s : State) (x : Engine) : (s.withEngine x).queue = s.queue := rfl
@[simp] theorem State.withEngine_bus (s : State) (x : Engine) : (s.withEngine x).bus = s.bus := rfl
@[simp] theorem State.withEngine_transfers (s : State) (x : Engine) : (s.withEngine x).transfers = s.transfers := rfl
@[simp] theorem State.withEngine_hold (s : State) (x : Engine) : (s.withEngine x).hold = s.hold := rfl
@[simp] theorem State.withEngine_alarms (s : State) (x : Engine) : (s.withEngine x).alarms = s.alarms := rfl
@[simp] theorem State.withEngine_attention (s : State) (x : Engine) : (s.withEngine x).attention = s.attention := rfl
@[simp] theorem State.withEngine_log (s : State) (x : Engine) : (s.withEngine x).log = s.log := rfl
@[simp] theorem State.withEngine_ports (s : State) (x : Engine) : (s.withEngine x).ports = s.ports := rfl

/-! ### `State.withQueue` -/

@[simp] theorem State.withQueue_pending (s : State) (x : Queue) : (s.withQueue x).pending = s.pending := rfl
@[simp] theorem State.withQueue_powered (s : State) (x : Queue) : (s.withQueue x).powered = s.powered := rfl
@[simp] theorem State.withQueue_settings (s : State) (x : Queue) : (s.withQueue x).settings = s.settings := rfl
@[simp] theorem State.withQueue_image (s : State) (x : Queue) : (s.withQueue x).image = s.image := rfl
@[simp] theorem State.withQueue_saving (s : State) (x : Queue) : (s.withQueue x).saving = s.saving := rfl
@[simp] theorem State.withQueue_restartDeferred (s : State) (x : Queue) : (s.withQueue x).restartDeferred = s.restartDeferred := rfl
@[simp] theorem State.withQueue_partTime (s : State) (x : Queue) : (s.withQueue x).partTime = s.partTime := rfl
@[simp] theorem State.withQueue_conns (s : State) (x : Queue) : (s.withQueue x).conns = s.conns := rfl
@[simp] theorem State.withQueue_metering (s : State) (x : Queue) : (s.withQueue x).metering = s.metering := rfl
@[simp] theorem State.withQueue_engine (s : State) (x : Queue) : (s.withQueue x).engine = s.engine := rfl
@[simp] theorem State.withQueue_queue (s : State) (x : Queue) : (s.withQueue x).queue = x := rfl
@[simp] theorem State.withQueue_bus (s : State) (x : Queue) : (s.withQueue x).bus = s.bus := rfl
@[simp] theorem State.withQueue_transfers (s : State) (x : Queue) : (s.withQueue x).transfers = s.transfers := rfl
@[simp] theorem State.withQueue_hold (s : State) (x : Queue) : (s.withQueue x).hold = s.hold := rfl
@[simp] theorem State.withQueue_alarms (s : State) (x : Queue) : (s.withQueue x).alarms = s.alarms := rfl
@[simp] theorem State.withQueue_attention (s : State) (x : Queue) : (s.withQueue x).attention = s.attention := rfl
@[simp] theorem State.withQueue_log (s : State) (x : Queue) : (s.withQueue x).log = s.log := rfl
@[simp] theorem State.withQueue_ports (s : State) (x : Queue) : (s.withQueue x).ports = s.ports := rfl

/-! ### `State.withBus` -/

@[simp] theorem State.withBus_pending (s : State) (x : Bus) : (s.withBus x).pending = s.pending := rfl
@[simp] theorem State.withBus_powered (s : State) (x : Bus) : (s.withBus x).powered = s.powered := rfl
@[simp] theorem State.withBus_settings (s : State) (x : Bus) : (s.withBus x).settings = s.settings := rfl
@[simp] theorem State.withBus_image (s : State) (x : Bus) : (s.withBus x).image = s.image := rfl
@[simp] theorem State.withBus_saving (s : State) (x : Bus) : (s.withBus x).saving = s.saving := rfl
@[simp] theorem State.withBus_restartDeferred (s : State) (x : Bus) : (s.withBus x).restartDeferred = s.restartDeferred := rfl
@[simp] theorem State.withBus_partTime (s : State) (x : Bus) : (s.withBus x).partTime = s.partTime := rfl
@[simp] theorem State.withBus_conns (s : State) (x : Bus) : (s.withBus x).conns = s.conns := rfl
@[simp] theorem State.withBus_metering (s : State) (x : Bus) : (s.withBus x).metering = s.metering := rfl
@[simp] theorem State.withBus_engine (s : State) (x : Bus) : (s.withBus x).engine = s.engine := rfl
@[simp] theorem State.withBus_queue (s : State) (x : Bus) : (s.withBus x).queue = s.queue := rfl
@[simp] theorem State.withBus_bus (s : State) (x : Bus) : (s.withBus x).bus = x := rfl
@[simp] theorem State.withBus_transfers (s : State) (x : Bus) : (s.withBus x).transfers = s.transfers := rfl
@[simp] theorem State.withBus_hold (s : State) (x : Bus) : (s.withBus x).hold = s.hold := rfl
@[simp] theorem State.withBus_alarms (s : State) (x : Bus) : (s.withBus x).alarms = s.alarms := rfl
@[simp] theorem State.withBus_attention (s : State) (x : Bus) : (s.withBus x).attention = s.attention := rfl
@[simp] theorem State.withBus_log (s : State) (x : Bus) : (s.withBus x).log = s.log := rfl
@[simp] theorem State.withBus_ports (s : State) (x : Bus) : (s.withBus x).ports = s.ports := rfl

/-! ### `State.withTransfers` -/

@[simp] theorem State.withTransfers_pending (s : State) (x : Transfers) : (s.withTransfers x).pending = s.pending := rfl
@[simp] theorem State.withTransfers_powered (s : State) (x : Transfers) : (s.withTransfers x).powered = s.powered := rfl
@[simp] theorem State.withTransfers_settings (s : State) (x : Transfers) : (s.withTransfers x).settings = s.settings := rfl
@[simp] theorem State.withTransfers_image (s : State) (x : Transfers) : (s.withTransfers x).image = s.image := rfl
@[simp] theorem State.withTransfers_saving (s : State) (x : Transfers) : (s.withTransfers x).saving = s.saving := rfl
@[simp] theorem State.withTransfers_restartDeferred (s : State) (x : Transfers) : (s.withTransfers x).restartDeferred = s.restartDeferred := rfl
@[simp] theorem State.withTransfers_partTime (s : State) (x : Transfers) : (s.withTransfers x).partTime = s.partTime := rfl
@[simp] theorem State.withTransfers_conns (s : State) (x : Transfers) : (s.withTransfers x).conns = s.conns := rfl
@[simp] theorem State.withTransfers_metering (s : State) (x : Transfers) : (s.withTransfers x).metering = s.metering := rfl
@[simp] theorem State.withTransfers_engine (s : State) (x : Transfers) : (s.withTransfers x).engine = s.engine := rfl
@[simp] theorem State.withTransfers_queue (s : State) (x : Transfers) : (s.withTransfers x).queue = s.queue := rfl
@[simp] theorem State.withTransfers_bus (s : State) (x : Transfers) : (s.withTransfers x).bus = s.bus := rfl
@[simp] theorem State.withTransfers_transfers (s : State) (x : Transfers) : (s.withTransfers x).transfers = x := rfl
@[simp] theorem State.withTransfers_hold (s : State) (x : Transfers) : (s.withTransfers x).hold = s.hold := rfl
@[simp] theorem State.withTransfers_alarms (s : State) (x : Transfers) : (s.withTransfers x).alarms = s.alarms := rfl
@[simp] theorem State.withTransfers_attention (s : State) (x : Transfers) : (s.withTransfers x).attention = s.attention := rfl
@[simp] theorem State.withTransfers_log (s : State) (x : Transfers) : (s.withTransfers x).log = s.log := rfl
@[simp] theorem State.withTransfers_ports (s : State) (x : Transfers) : (s.withTransfers x).ports = s.ports := rfl

/-! ### `State.withHold` -/

@[simp] theorem State.withHold_pending (s : State) (x : HoldSet) : (s.withHold x).pending = s.pending := rfl
@[simp] theorem State.withHold_powered (s : State) (x : HoldSet) : (s.withHold x).powered = s.powered := rfl
@[simp] theorem State.withHold_settings (s : State) (x : HoldSet) : (s.withHold x).settings = s.settings := rfl
@[simp] theorem State.withHold_image (s : State) (x : HoldSet) : (s.withHold x).image = s.image := rfl
@[simp] theorem State.withHold_saving (s : State) (x : HoldSet) : (s.withHold x).saving = s.saving := rfl
@[simp] theorem State.withHold_restartDeferred (s : State) (x : HoldSet) : (s.withHold x).restartDeferred = s.restartDeferred := rfl
@[simp] theorem State.withHold_partTime (s : State) (x : HoldSet) : (s.withHold x).partTime = s.partTime := rfl
@[simp] theorem State.withHold_conns (s : State) (x : HoldSet) : (s.withHold x).conns = s.conns := rfl
@[simp] theorem State.withHold_metering (s : State) (x : HoldSet) : (s.withHold x).metering = s.metering := rfl
@[simp] theorem State.withHold_engine (s : State) (x : HoldSet) : (s.withHold x).engine = s.engine := rfl
@[simp] theorem State.withHold_queue (s : State) (x : HoldSet) : (s.withHold x).queue = s.queue := rfl
@[simp] theorem State.withHold_bus (s : State) (x : HoldSet) : (s.withHold x).bus = s.bus := rfl
@[simp] theorem State.withHold_transfers (s : State) (x : HoldSet) : (s.withHold x).transfers = s.transfers := rfl
@[simp] theorem State.withHold_hold (s : State) (x : HoldSet) : (s.withHold x).hold = x := rfl
@[simp] theorem State.withHold_alarms (s : State) (x : HoldSet) : (s.withHold x).alarms = s.alarms := rfl
@[simp] theorem State.withHold_attention (s : State) (x : HoldSet) : (s.withHold x).attention = s.attention := rfl
@[simp] theorem State.withHold_log (s : State) (x : HoldSet) : (s.withHold x).log = s.log := rfl
@[simp] theorem State.withHold_ports (s : State) (x : HoldSet) : (s.withHold x).ports = s.ports := rfl

/-! ### `State.withAlarms` -/

@[simp] theorem State.withAlarms_pending (s : State) (x : PerPort AlarmSet) : (s.withAlarms x).pending = s.pending := rfl
@[simp] theorem State.withAlarms_powered (s : State) (x : PerPort AlarmSet) : (s.withAlarms x).powered = s.powered := rfl
@[simp] theorem State.withAlarms_settings (s : State) (x : PerPort AlarmSet) : (s.withAlarms x).settings = s.settings := rfl
@[simp] theorem State.withAlarms_image (s : State) (x : PerPort AlarmSet) : (s.withAlarms x).image = s.image := rfl
@[simp] theorem State.withAlarms_saving (s : State) (x : PerPort AlarmSet) : (s.withAlarms x).saving = s.saving := rfl
@[simp] theorem State.withAlarms_restartDeferred (s : State) (x : PerPort AlarmSet) : (s.withAlarms x).restartDeferred = s.restartDeferred := rfl
@[simp] theorem State.withAlarms_partTime (s : State) (x : PerPort AlarmSet) : (s.withAlarms x).partTime = s.partTime := rfl
@[simp] theorem State.withAlarms_conns (s : State) (x : PerPort AlarmSet) : (s.withAlarms x).conns = s.conns := rfl
@[simp] theorem State.withAlarms_metering (s : State) (x : PerPort AlarmSet) : (s.withAlarms x).metering = s.metering := rfl
@[simp] theorem State.withAlarms_engine (s : State) (x : PerPort AlarmSet) : (s.withAlarms x).engine = s.engine := rfl
@[simp] theorem State.withAlarms_queue (s : State) (x : PerPort AlarmSet) : (s.withAlarms x).queue = s.queue := rfl
@[simp] theorem State.withAlarms_bus (s : State) (x : PerPort AlarmSet) : (s.withAlarms x).bus = s.bus := rfl
@[simp] theorem State.withAlarms_transfers (s : State) (x : PerPort AlarmSet) : (s.withAlarms x).transfers = s.transfers := rfl
@[simp] theorem State.withAlarms_hold (s : State) (x : PerPort AlarmSet) : (s.withAlarms x).hold = s.hold := rfl
@[simp] theorem State.withAlarms_alarms (s : State) (x : PerPort AlarmSet) : (s.withAlarms x).alarms = x := rfl
@[simp] theorem State.withAlarms_attention (s : State) (x : PerPort AlarmSet) : (s.withAlarms x).attention = s.attention := rfl
@[simp] theorem State.withAlarms_log (s : State) (x : PerPort AlarmSet) : (s.withAlarms x).log = s.log := rfl
@[simp] theorem State.withAlarms_ports (s : State) (x : PerPort AlarmSet) : (s.withAlarms x).ports = s.ports := rfl

/-! ### `State.withAttention` -/

@[simp] theorem State.withAttention_pending (s : State) (x : PerPort Bool) : (s.withAttention x).pending = s.pending := rfl
@[simp] theorem State.withAttention_powered (s : State) (x : PerPort Bool) : (s.withAttention x).powered = s.powered := rfl
@[simp] theorem State.withAttention_settings (s : State) (x : PerPort Bool) : (s.withAttention x).settings = s.settings := rfl
@[simp] theorem State.withAttention_image (s : State) (x : PerPort Bool) : (s.withAttention x).image = s.image := rfl
@[simp] theorem State.withAttention_saving (s : State) (x : PerPort Bool) : (s.withAttention x).saving = s.saving := rfl
@[simp] theorem State.withAttention_restartDeferred (s : State) (x : PerPort Bool) : (s.withAttention x).restartDeferred = s.restartDeferred := rfl
@[simp] theorem State.withAttention_partTime (s : State) (x : PerPort Bool) : (s.withAttention x).partTime = s.partTime := rfl
@[simp] theorem State.withAttention_conns (s : State) (x : PerPort Bool) : (s.withAttention x).conns = s.conns := rfl
@[simp] theorem State.withAttention_metering (s : State) (x : PerPort Bool) : (s.withAttention x).metering = s.metering := rfl
@[simp] theorem State.withAttention_engine (s : State) (x : PerPort Bool) : (s.withAttention x).engine = s.engine := rfl
@[simp] theorem State.withAttention_queue (s : State) (x : PerPort Bool) : (s.withAttention x).queue = s.queue := rfl
@[simp] theorem State.withAttention_bus (s : State) (x : PerPort Bool) : (s.withAttention x).bus = s.bus := rfl
@[simp] theorem State.withAttention_transfers (s : State) (x : PerPort Bool) : (s.withAttention x).transfers = s.transfers := rfl
@[simp] theorem State.withAttention_hold (s : State) (x : PerPort Bool) : (s.withAttention x).hold = s.hold := rfl
@[simp] theorem State.withAttention_alarms (s : State) (x : PerPort Bool) : (s.withAttention x).alarms = s.alarms := rfl
@[simp] theorem State.withAttention_attention (s : State) (x : PerPort Bool) : (s.withAttention x).attention = x := rfl
@[simp] theorem State.withAttention_log (s : State) (x : PerPort Bool) : (s.withAttention x).log = s.log := rfl
@[simp] theorem State.withAttention_ports (s : State) (x : PerPort Bool) : (s.withAttention x).ports = s.ports := rfl

/-! ### `State.withLog` -/

@[simp] theorem State.withLog_pending (s : State) (x : MoveLog) : (s.withLog x).pending = s.pending := rfl
@[simp] theorem State.withLog_powered (s : State) (x : MoveLog) : (s.withLog x).powered = s.powered := rfl
@[simp] theorem State.withLog_settings (s : State) (x : MoveLog) : (s.withLog x).settings = s.settings := rfl
@[simp] theorem State.withLog_image (s : State) (x : MoveLog) : (s.withLog x).image = s.image := rfl
@[simp] theorem State.withLog_saving (s : State) (x : MoveLog) : (s.withLog x).saving = s.saving := rfl
@[simp] theorem State.withLog_restartDeferred (s : State) (x : MoveLog) : (s.withLog x).restartDeferred = s.restartDeferred := rfl
@[simp] theorem State.withLog_partTime (s : State) (x : MoveLog) : (s.withLog x).partTime = s.partTime := rfl
@[simp] theorem State.withLog_conns (s : State) (x : MoveLog) : (s.withLog x).conns = s.conns := rfl
@[simp] theorem State.withLog_metering (s : State) (x : MoveLog) : (s.withLog x).metering = s.metering := rfl
@[simp] theorem State.withLog_engine (s : State) (x : MoveLog) : (s.withLog x).engine = s.engine := rfl
@[simp] theorem State.withLog_queue (s : State) (x : MoveLog) : (s.withLog x).queue = s.queue := rfl
@[simp] theorem State.withLog_bus (s : State) (x : MoveLog) : (s.withLog x).bus = s.bus := rfl
@[simp] theorem State.withLog_transfers (s : State) (x : MoveLog) : (s.withLog x).transfers = s.transfers := rfl
@[simp] theorem State.withLog_hold (s : State) (x : MoveLog) : (s.withLog x).hold = s.hold := rfl
@[simp] theorem State.withLog_alarms (s : State) (x : MoveLog) : (s.withLog x).alarms = s.alarms := rfl
@[simp] theorem State.withLog_attention (s : State) (x : MoveLog) : (s.withLog x).attention = s.attention := rfl
@[simp] theorem State.withLog_log (s : State) (x : MoveLog) : (s.withLog x).log = x := rfl
@[simp] theorem State.withLog_ports (s : State) (x : MoveLog) : (s.withLog x).ports = s.ports := rfl

/-! ### `State.withPorts` -/

@[simp] theorem State.withPorts_pending (s : State) (x : PerPort PortState) : (s.withPorts x).pending = s.pending := rfl
@[simp] theorem State.withPorts_powered (s : State) (x : PerPort PortState) : (s.withPorts x).powered = s.powered := rfl
@[simp] theorem State.withPorts_settings (s : State) (x : PerPort PortState) : (s.withPorts x).settings = s.settings := rfl
@[simp] theorem State.withPorts_image (s : State) (x : PerPort PortState) : (s.withPorts x).image = s.image := rfl
@[simp] theorem State.withPorts_saving (s : State) (x : PerPort PortState) : (s.withPorts x).saving = s.saving := rfl
@[simp] theorem State.withPorts_restartDeferred (s : State) (x : PerPort PortState) : (s.withPorts x).restartDeferred = s.restartDeferred := rfl
@[simp] theorem State.withPorts_partTime (s : State) (x : PerPort PortState) : (s.withPorts x).partTime = s.partTime := rfl
@[simp] theorem State.withPorts_conns (s : State) (x : PerPort PortState) : (s.withPorts x).conns = s.conns := rfl
@[simp] theorem State.withPorts_metering (s : State) (x : PerPort PortState) : (s.withPorts x).metering = s.metering := rfl
@[simp] theorem State.withPorts_engine (s : State) (x : PerPort PortState) : (s.withPorts x).engine = s.engine := rfl
@[simp] theorem State.withPorts_queue (s : State) (x : PerPort PortState) : (s.withPorts x).queue = s.queue := rfl
@[simp] theorem State.withPorts_bus (s : State) (x : PerPort PortState) : (s.withPorts x).bus = s.bus := rfl
@[simp] theorem State.withPorts_transfers (s : State) (x : PerPort PortState) : (s.withPorts x).transfers = s.transfers := rfl
@[simp] theorem State.withPorts_hold (s : State) (x : PerPort PortState) : (s.withPorts x).hold = s.hold := rfl
@[simp] theorem State.withPorts_alarms (s : State) (x : PerPort PortState) : (s.withPorts x).alarms = s.alarms := rfl
@[simp] theorem State.withPorts_attention (s : State) (x : PerPort PortState) : (s.withPorts x).attention = s.attention := rfl
@[simp] theorem State.withPorts_log (s : State) (x : PerPort PortState) : (s.withPorts x).log = s.log := rfl
@[simp] theorem State.withPorts_ports (s : State) (x : PerPort PortState) : (s.withPorts x).ports = x := rfl

end Sys2Proof.Machine
end

