-- ==== Sys2Proof/Laws/Frames.lean ====
section
/-!
SUPPORT. The frame of every shared operation of the queue, the bus and the transfers: the fields of State it leaves as
they were, whatever its operands.
-/

namespace Sys2Proof.Machine

@[simp] theorem State.setConn_frame (s : State) (c : ConnId) (x : Connection) :
    (s.setConn c x).pending = s.pending ∧ (s.setConn c x).powered = s.powered ∧
    (s.setConn c x).settings = s.settings ∧ (s.setConn c x).image = s.image ∧
    (s.setConn c x).saving = s.saving ∧ (s.setConn c x).restartDeferred = s.restartDeferred ∧
    (s.setConn c x).partTime = s.partTime ∧ (s.setConn c x).metering = s.metering ∧
    (s.setConn c x).engine = s.engine ∧ (s.setConn c x).queue = s.queue ∧ (s.setConn c x).bus = s.bus ∧
    (s.setConn c x).transfers = s.transfers ∧ (s.setConn c x).hold = s.hold ∧
    (s.setConn c x).alarms = s.alarms ∧ (s.setConn c x).attention = s.attention ∧
    (s.setConn c x).log = s.log ∧ (s.setConn c x).ports = s.ports := by
  unfold State.setConn; simp

@[simp] theorem State.modConn_frame (s : State) (c : ConnId) (f : Connection → Connection) :
    (s.modConn c f).pending = s.pending ∧ (s.modConn c f).powered = s.powered ∧
    (s.modConn c f).settings = s.settings ∧ (s.modConn c f).image = s.image ∧
    (s.modConn c f).saving = s.saving ∧ (s.modConn c f).restartDeferred = s.restartDeferred ∧
    (s.modConn c f).partTime = s.partTime ∧ (s.modConn c f).metering = s.metering ∧
    (s.modConn c f).engine = s.engine ∧ (s.modConn c f).queue = s.queue ∧ (s.modConn c f).bus = s.bus ∧
    (s.modConn c f).transfers = s.transfers ∧ (s.modConn c f).hold = s.hold ∧
    (s.modConn c f).alarms = s.alarms ∧ (s.modConn c f).attention = s.attention ∧
    (s.modConn c f).log = s.log ∧ (s.modConn c f).ports = s.ports := by
  unfold State.modConn; simp

@[simp] theorem State.mapConns_frame (s : State) (f : ConnId → Connection → Connection) :
    (s.mapConns f).pending = s.pending ∧ (s.mapConns f).powered = s.powered ∧
    (s.mapConns f).settings = s.settings ∧ (s.mapConns f).image = s.image ∧
    (s.mapConns f).saving = s.saving ∧ (s.mapConns f).restartDeferred = s.restartDeferred ∧
    (s.mapConns f).partTime = s.partTime ∧ (s.mapConns f).metering = s.metering ∧
    (s.mapConns f).engine = s.engine ∧ (s.mapConns f).queue = s.queue ∧ (s.mapConns f).bus = s.bus ∧
    (s.mapConns f).transfers = s.transfers ∧ (s.mapConns f).hold = s.hold ∧
    (s.mapConns f).alarms = s.alarms ∧ (s.mapConns f).attention = s.attention ∧ (s.mapConns f).log = s.log ∧
    (s.mapConns f).ports = s.ports := by
  unfold State.mapConns; simp

@[simp] theorem State.setMotion_frame (s : State) (c : ConnId) (m : Motion) :
    (s.setMotion c m).pending = s.pending ∧ (s.setMotion c m).powered = s.powered ∧
    (s.setMotion c m).settings = s.settings ∧ (s.setMotion c m).image = s.image ∧
    (s.setMotion c m).saving = s.saving ∧ (s.setMotion c m).restartDeferred = s.restartDeferred ∧
    (s.setMotion c m).partTime = s.partTime ∧ (s.setMotion c m).metering = s.metering ∧
    (s.setMotion c m).engine = s.engine ∧ (s.setMotion c m).queue = s.queue ∧ (s.setMotion c m).bus = s.bus ∧
    (s.setMotion c m).transfers = s.transfers ∧ (s.setMotion c m).hold = s.hold ∧
    (s.setMotion c m).alarms = s.alarms ∧ (s.setMotion c m).attention = s.attention ∧
    (s.setMotion c m).log = s.log ∧ (s.setMotion c m).ports = s.ports := by
  unfold State.setMotion; simp

@[simp] theorem State.startSettle_frame (s : State) (c : ConnId) :
    (s.startSettle c).pending = s.pending ∧ (s.startSettle c).powered = s.powered ∧
    (s.startSettle c).settings = s.settings ∧ (s.startSettle c).image = s.image ∧
    (s.startSettle c).saving = s.saving ∧ (s.startSettle c).restartDeferred = s.restartDeferred ∧
    (s.startSettle c).partTime = s.partTime ∧ (s.startSettle c).metering = s.metering ∧
    (s.startSettle c).engine = s.engine ∧ (s.startSettle c).queue = s.queue ∧ (s.startSettle c).bus = s.bus ∧
    (s.startSettle c).transfers = s.transfers ∧ (s.startSettle c).hold = s.hold ∧
    (s.startSettle c).alarms = s.alarms ∧ (s.startSettle c).attention = s.attention ∧
    (s.startSettle c).log = s.log ∧ (s.startSettle c).ports = s.ports := by
  unfold State.startSettle; simp

@[simp] theorem State.setContext_frame (s : State) (k : CtxId) (x : Option Context) :
    (s.setContext k x).pending = s.pending ∧ (s.setContext k x).powered = s.powered ∧
    (s.setContext k x).settings = s.settings ∧ (s.setContext k x).image = s.image ∧
    (s.setContext k x).saving = s.saving ∧ (s.setContext k x).restartDeferred = s.restartDeferred ∧
    (s.setContext k x).partTime = s.partTime ∧ (s.setContext k x).conns = s.conns ∧
    (s.setContext k x).metering = s.metering ∧ (s.setContext k x).engine = s.engine ∧
    (s.setContext k x).queue = s.queue ∧ (s.setContext k x).bus = s.bus ∧ (s.setContext k x).hold = s.hold ∧
    (s.setContext k x).alarms = s.alarms ∧ (s.setContext k x).attention = s.attention ∧
    (s.setContext k x).log = s.log ∧ (s.setContext k x).ports = s.ports := by
  unfold State.setContext; simp

@[simp] theorem State.modContext_frame (s : State) (k : CtxId) (f : Context → Context) :
    (s.modContext k f).pending = s.pending ∧ (s.modContext k f).powered = s.powered ∧
    (s.modContext k f).settings = s.settings ∧ (s.modContext k f).image = s.image ∧
    (s.modContext k f).saving = s.saving ∧ (s.modContext k f).restartDeferred = s.restartDeferred ∧
    (s.modContext k f).partTime = s.partTime ∧ (s.modContext k f).conns = s.conns ∧
    (s.modContext k f).metering = s.metering ∧ (s.modContext k f).engine = s.engine ∧
    (s.modContext k f).queue = s.queue ∧ (s.modContext k f).bus = s.bus ∧ (s.modContext k f).hold = s.hold ∧
    (s.modContext k f).alarms = s.alarms ∧ (s.modContext k f).attention = s.attention ∧
    (s.modContext k f).log = s.log ∧ (s.modContext k f).ports = s.ports := by
  unfold State.modContext; simp

@[simp] theorem State.releaseContext_frame (s : State) (k : CtxId) :
    (s.releaseContext k).pending = s.pending ∧ (s.releaseContext k).powered = s.powered ∧
    (s.releaseContext k).settings = s.settings ∧ (s.releaseContext k).image = s.image ∧
    (s.releaseContext k).saving = s.saving ∧ (s.releaseContext k).restartDeferred = s.restartDeferred ∧
    (s.releaseContext k).partTime = s.partTime ∧ (s.releaseContext k).conns = s.conns ∧
    (s.releaseContext k).metering = s.metering ∧ (s.releaseContext k).engine = s.engine ∧
    (s.releaseContext k).queue = s.queue ∧ (s.releaseContext k).bus = s.bus ∧
    (s.releaseContext k).hold = s.hold ∧ (s.releaseContext k).alarms = s.alarms ∧
    (s.releaseContext k).attention = s.attention ∧ (s.releaseContext k).log = s.log ∧
    (s.releaseContext k).ports = s.ports := by
  unfold State.releaseContext; simp

@[simp] theorem State.writeLog_frame (s : State) (c : ConnId) (a : Option Phase) (b : Phase) (src : Source) (t : Option TriggerId) (g : Option Nat) (e : LogOutcome) :
    (s.writeLog c a b src t g e).pending = s.pending ∧ (s.writeLog c a b src t g e).powered = s.powered ∧
    (s.writeLog c a b src t g e).settings = s.settings ∧ (s.writeLog c a b src t g e).image = s.image ∧
    (s.writeLog c a b src t g e).saving = s.saving ∧
    (s.writeLog c a b src t g e).restartDeferred = s.restartDeferred ∧
    (s.writeLog c a b src t g e).partTime = s.partTime ∧ (s.writeLog c a b src t g e).conns = s.conns ∧
    (s.writeLog c a b src t g e).metering = s.metering ∧ (s.writeLog c a b src t g e).engine = s.engine ∧
    (s.writeLog c a b src t g e).queue = s.queue ∧ (s.writeLog c a b src t g e).bus = s.bus ∧
    (s.writeLog c a b src t g e).transfers = s.transfers ∧ (s.writeLog c a b src t g e).hold = s.hold ∧
    (s.writeLog c a b src t g e).alarms = s.alarms ∧ (s.writeLog c a b src t g e).attention = s.attention ∧
    (s.writeLog c a b src t g e).ports = s.ports := by
  unfold State.writeLog; simp

@[simp] theorem State.raise_frame (s : State) (a : Alarm) :
    (s.raise a).pending = s.pending ∧ (s.raise a).powered = s.powered ∧ (s.raise a).settings = s.settings ∧
    (s.raise a).image = s.image ∧ (s.raise a).saving = s.saving ∧
    (s.raise a).restartDeferred = s.restartDeferred ∧ (s.raise a).partTime = s.partTime ∧
    (s.raise a).conns = s.conns ∧ (s.raise a).metering = s.metering ∧ (s.raise a).engine = s.engine ∧
    (s.raise a).queue = s.queue ∧ (s.raise a).bus = s.bus ∧ (s.raise a).transfers = s.transfers ∧
    (s.raise a).hold = s.hold ∧ (s.raise a).attention = s.attention ∧ (s.raise a).log = s.log ∧
    (s.raise a).ports = s.ports := by
  unfold State.raise; simp

@[simp] theorem State.raiseIf_frame (s : State) (b : Bool) (a : Alarm) :
    (s.raiseIf b a).pending = s.pending ∧ (s.raiseIf b a).powered = s.powered ∧
    (s.raiseIf b a).settings = s.settings ∧ (s.raiseIf b a).image = s.image ∧
    (s.raiseIf b a).saving = s.saving ∧ (s.raiseIf b a).restartDeferred = s.restartDeferred ∧
    (s.raiseIf b a).partTime = s.partTime ∧ (s.raiseIf b a).conns = s.conns ∧
    (s.raiseIf b a).metering = s.metering ∧ (s.raiseIf b a).engine = s.engine ∧
    (s.raiseIf b a).queue = s.queue ∧ (s.raiseIf b a).bus = s.bus ∧ (s.raiseIf b a).transfers = s.transfers ∧
    (s.raiseIf b a).hold = s.hold ∧ (s.raiseIf b a).attention = s.attention ∧ (s.raiseIf b a).log = s.log ∧
    (s.raiseIf b a).ports = s.ports := by
  unfold State.raiseIf; repeat' split
  all_goals simp

@[simp] theorem State.setLines_frame (s : State) :
    (s.setLines).pending = s.pending ∧ (s.setLines).powered = s.powered ∧
    (s.setLines).settings = s.settings ∧ (s.setLines).image = s.image ∧ (s.setLines).saving = s.saving ∧
    (s.setLines).restartDeferred = s.restartDeferred ∧ (s.setLines).partTime = s.partTime ∧
    (s.setLines).conns = s.conns ∧ (s.setLines).metering = s.metering ∧ (s.setLines).engine = s.engine ∧
    (s.setLines).queue = s.queue ∧ (s.setLines).bus = s.bus ∧ (s.setLines).transfers = s.transfers ∧
    (s.setLines).hold = s.hold ∧ (s.setLines).alarms = s.alarms ∧ (s.setLines).log = s.log ∧
    (s.setLines).ports = s.ports := by
  unfold State.setLines; simp

@[simp] theorem State.enterQuiet_frame (s : State) :
    (s.enterQuiet).pending = s.pending ∧ (s.enterQuiet).powered = s.powered ∧
    (s.enterQuiet).settings = s.settings ∧ (s.enterQuiet).image = s.image ∧
    (s.enterQuiet).saving = s.saving ∧ (s.enterQuiet).restartDeferred = s.restartDeferred ∧
    (s.enterQuiet).partTime = s.partTime ∧ (s.enterQuiet).conns = s.conns ∧
    (s.enterQuiet).metering = s.metering ∧ (s.enterQuiet).queue = s.queue ∧ (s.enterQuiet).bus = s.bus ∧
    (s.enterQuiet).transfers = s.transfers ∧ (s.enterQuiet).hold = s.hold ∧
    (s.enterQuiet).alarms = s.alarms ∧ (s.enterQuiet).attention = s.attention ∧ (s.enterQuiet).log = s.log ∧
    (s.enterQuiet).ports = s.ports := by
  unfold State.enterQuiet; simp

@[simp] theorem State.orderEnded_frame (s : State) (src : Source) :
    (s.orderEnded src).pending = s.pending ∧ (s.orderEnded src).powered = s.powered ∧
    (s.orderEnded src).settings = s.settings ∧ (s.orderEnded src).image = s.image ∧
    (s.orderEnded src).saving = s.saving ∧ (s.orderEnded src).restartDeferred = s.restartDeferred ∧
    (s.orderEnded src).partTime = s.partTime ∧ (s.orderEnded src).conns = s.conns ∧
    (s.orderEnded src).metering = s.metering ∧ (s.orderEnded src).queue = s.queue ∧
    (s.orderEnded src).bus = s.bus ∧ (s.orderEnded src).transfers = s.transfers ∧
    (s.orderEnded src).hold = s.hold ∧ (s.orderEnded src).alarms = s.alarms ∧
    (s.orderEnded src).attention = s.attention ∧ (s.orderEnded src).log = s.log ∧
    (s.orderEnded src).ports = s.ports := by
  unfold State.orderEnded; repeat' split
  all_goals simp

@[simp] theorem State.resetQuietCount_frame (s : State) :
    (s.resetQuietCount).pending = s.pending ∧ (s.resetQuietCount).powered = s.powered ∧
    (s.resetQuietCount).settings = s.settings ∧ (s.resetQuietCount).image = s.image ∧
    (s.resetQuietCount).saving = s.saving ∧ (s.resetQuietCount).restartDeferred = s.restartDeferred ∧
    (s.resetQuietCount).partTime = s.partTime ∧ (s.resetQuietCount).conns = s.conns ∧
    (s.resetQuietCount).metering = s.metering ∧ (s.resetQuietCount).queue = s.queue ∧
    (s.resetQuietCount).bus = s.bus ∧ (s.resetQuietCount).transfers = s.transfers ∧
    (s.resetQuietCount).hold = s.hold ∧ (s.resetQuietCount).alarms = s.alarms ∧
    (s.resetQuietCount).attention = s.attention ∧ (s.resetQuietCount).log = s.log ∧
    (s.resetQuietCount).ports = s.ports := by
  unfold State.resetQuietCount; repeat' split
  all_goals simp

@[simp] theorem State.reviewStopping_frame (s : State) :
    (s.reviewStopping).pending = s.pending ∧ (s.reviewStopping).powered = s.powered ∧
    (s.reviewStopping).settings = s.settings ∧ (s.reviewStopping).image = s.image ∧
    (s.reviewStopping).saving = s.saving ∧ (s.reviewStopping).restartDeferred = s.restartDeferred ∧
    (s.reviewStopping).partTime = s.partTime ∧ (s.reviewStopping).conns = s.conns ∧
    (s.reviewStopping).metering = s.metering ∧ (s.reviewStopping).queue = s.queue ∧
    (s.reviewStopping).bus = s.bus ∧ (s.reviewStopping).transfers = s.transfers ∧
    (s.reviewStopping).hold = s.hold ∧ (s.reviewStopping).alarms = s.alarms ∧
    (s.reviewStopping).attention = s.attention ∧ (s.reviewStopping).log = s.log ∧
    (s.reviewStopping).ports = s.ports := by
  unfold State.reviewStopping; repeat' split
  all_goals simp

@[simp] theorem State.enqueue_frame (s : State) (c : ConnId) (b : Phase) (src : Source) (p l : Nat) (t : Option TriggerId) (g : Option Nat) :
    (s.enqueue c b src p l t g).pending = s.pending ∧ (s.enqueue c b src p l t g).powered = s.powered ∧
    (s.enqueue c b src p l t g).settings = s.settings ∧ (s.enqueue c b src p l t g).image = s.image ∧
    (s.enqueue c b src p l t g).saving = s.saving ∧
    (s.enqueue c b src p l t g).restartDeferred = s.restartDeferred ∧
    (s.enqueue c b src p l t g).partTime = s.partTime ∧ (s.enqueue c b src p l t g).metering = s.metering ∧
    (s.enqueue c b src p l t g).engine = s.engine ∧ (s.enqueue c b src p l t g).bus = s.bus ∧
    (s.enqueue c b src p l t g).transfers = s.transfers ∧ (s.enqueue c b src p l t g).hold = s.hold ∧
    (s.enqueue c b src p l t g).alarms = s.alarms ∧ (s.enqueue c b src p l t g).attention = s.attention ∧
    (s.enqueue c b src p l t g).log = s.log ∧ (s.enqueue c b src p l t g).ports = s.ports := by
  unfold State.enqueue; simp

@[simp] theorem State.dropOrder_frame (s : State) (o : Order) (e : LogOutcome) :
    (s.dropOrder o e).pending = s.pending ∧ (s.dropOrder o e).powered = s.powered ∧
    (s.dropOrder o e).settings = s.settings ∧ (s.dropOrder o e).image = s.image ∧
    (s.dropOrder o e).saving = s.saving ∧ (s.dropOrder o e).restartDeferred = s.restartDeferred ∧
    (s.dropOrder o e).partTime = s.partTime ∧ (s.dropOrder o e).conns = s.conns ∧
    (s.dropOrder o e).metering = s.metering ∧ (s.dropOrder o e).engine = s.engine ∧
    (s.dropOrder o e).bus = s.bus ∧ (s.dropOrder o e).transfers = s.transfers ∧
    (s.dropOrder o e).hold = s.hold ∧ (s.dropOrder o e).alarms = s.alarms ∧
    (s.dropOrder o e).attention = s.attention ∧ (s.dropOrder o e).ports = s.ports := by
  unfold State.dropOrder; simp

@[simp] theorem State.removeQueued_frame (s : State) (c : ConnId) (e : LogOutcome) :
    (s.removeQueued c e).pending = s.pending ∧ (s.removeQueued c e).powered = s.powered ∧
    (s.removeQueued c e).settings = s.settings ∧ (s.removeQueued c e).image = s.image ∧
    (s.removeQueued c e).saving = s.saving ∧ (s.removeQueued c e).restartDeferred = s.restartDeferred ∧
    (s.removeQueued c e).partTime = s.partTime ∧ (s.removeQueued c e).metering = s.metering ∧
    (s.removeQueued c e).bus = s.bus ∧ (s.removeQueued c e).transfers = s.transfers ∧
    (s.removeQueued c e).hold = s.hold ∧ (s.removeQueued c e).alarms = s.alarms ∧
    (s.removeQueued c e).attention = s.attention ∧ (s.removeQueued c e).ports = s.ports := by
  unfold State.removeQueued; repeat' split
  all_goals simp

@[simp] theorem State.removeBalancer_frame (s : State) (c : ConnId) (e : LogOutcome) :
    (s.removeBalancer c e).pending = s.pending ∧ (s.removeBalancer c e).powered = s.powered ∧
    (s.removeBalancer c e).settings = s.settings ∧ (s.removeBalancer c e).image = s.image ∧
    (s.removeBalancer c e).saving = s.saving ∧ (s.removeBalancer c e).restartDeferred = s.restartDeferred ∧
    (s.removeBalancer c e).partTime = s.partTime ∧ (s.removeBalancer c e).metering = s.metering ∧
    (s.removeBalancer c e).bus = s.bus ∧ (s.removeBalancer c e).transfers = s.transfers ∧
    (s.removeBalancer c e).hold = s.hold ∧ (s.removeBalancer c e).alarms = s.alarms ∧
    (s.removeBalancer c e).attention = s.attention ∧ (s.removeBalancer c e).ports = s.ports := by
  unfold State.removeBalancer; repeat' split
  all_goals simp

@[simp] theorem State.meetReturn_frame (s : State) (c : ConnId) :
    (s.meetReturn c).pending = s.pending ∧ (s.meetReturn c).powered = s.powered ∧
    (s.meetReturn c).settings = s.settings ∧ (s.meetReturn c).image = s.image ∧
    (s.meetReturn c).saving = s.saving ∧ (s.meetReturn c).restartDeferred = s.restartDeferred ∧
    (s.meetReturn c).partTime = s.partTime ∧ (s.meetReturn c).metering = s.metering ∧
    (s.meetReturn c).bus = s.bus ∧ (s.meetReturn c).transfers = s.transfers ∧
    (s.meetReturn c).hold = s.hold ∧ (s.meetReturn c).alarms = s.alarms ∧
    (s.meetReturn c).attention = s.attention ∧ (s.meetReturn c).ports = s.ports := by
  unfold State.meetReturn; repeat' split
  all_goals simp

@[simp] theorem State.returnOrder_frame (s : State) (k : CtxId) (x : Context) :
    (s.returnOrder k x).pending = s.pending ∧ (s.returnOrder k x).powered = s.powered ∧
    (s.returnOrder k x).settings = s.settings ∧ (s.returnOrder k x).image = s.image ∧
    (s.returnOrder k x).saving = s.saving ∧ (s.returnOrder k x).restartDeferred = s.restartDeferred ∧
    (s.returnOrder k x).partTime = s.partTime ∧ (s.returnOrder k x).metering = s.metering ∧
    (s.returnOrder k x).bus = s.bus ∧ (s.returnOrder k x).hold = s.hold ∧
    (s.returnOrder k x).alarms = s.alarms ∧ (s.returnOrder k x).attention = s.attention ∧
    (s.returnOrder k x).ports = s.ports := by
  unfold State.returnOrder; simp

@[simp] theorem State.raiseRelease_frame (s : State) (c : ConnId) (n : Nat) :
    (s.raiseRelease c n).pending = s.pending ∧ (s.raiseRelease c n).powered = s.powered ∧
    (s.raiseRelease c n).settings = s.settings ∧ (s.raiseRelease c n).image = s.image ∧
    (s.raiseRelease c n).saving = s.saving ∧ (s.raiseRelease c n).restartDeferred = s.restartDeferred ∧
    (s.raiseRelease c n).partTime = s.partTime ∧ (s.raiseRelease c n).conns = s.conns ∧
    (s.raiseRelease c n).metering = s.metering ∧ (s.raiseRelease c n).engine = s.engine ∧
    (s.raiseRelease c n).queue = s.queue ∧ (s.raiseRelease c n).transfers = s.transfers ∧
    (s.raiseRelease c n).hold = s.hold ∧ (s.raiseRelease c n).alarms = s.alarms ∧
    (s.raiseRelease c n).attention = s.attention ∧ (s.raiseRelease c n).log = s.log ∧
    (s.raiseRelease c n).ports = s.ports := by
  unfold State.raiseRelease; simp

@[simp] theorem State.raiseStray_frame (s : State) (c : ConnId) :
    (s.raiseStray c).pending = s.pending ∧ (s.raiseStray c).powered = s.powered ∧
    (s.raiseStray c).settings = s.settings ∧ (s.raiseStray c).image = s.image ∧
    (s.raiseStray c).saving = s.saving ∧ (s.raiseStray c).restartDeferred = s.restartDeferred ∧
    (s.raiseStray c).partTime = s.partTime ∧ (s.raiseStray c).conns = s.conns ∧
    (s.raiseStray c).metering = s.metering ∧ (s.raiseStray c).engine = s.engine ∧
    (s.raiseStray c).queue = s.queue ∧ (s.raiseStray c).transfers = s.transfers ∧
    (s.raiseStray c).hold = s.hold ∧ (s.raiseStray c).alarms = s.alarms ∧
    (s.raiseStray c).attention = s.attention ∧ (s.raiseStray c).log = s.log ∧ (s.raiseStray c).ports = s.ports := by
  unfold State.raiseStray; repeat' split
  all_goals simp

@[simp] theorem State.clearDisarm_frame (s : State) (c : ConnId) :
    (s.clearDisarm c).pending = s.pending ∧ (s.clearDisarm c).powered = s.powered ∧
    (s.clearDisarm c).settings = s.settings ∧ (s.clearDisarm c).image = s.image ∧
    (s.clearDisarm c).saving = s.saving ∧ (s.clearDisarm c).restartDeferred = s.restartDeferred ∧
    (s.clearDisarm c).partTime = s.partTime ∧ (s.clearDisarm c).conns = s.conns ∧
    (s.clearDisarm c).metering = s.metering ∧ (s.clearDisarm c).engine = s.engine ∧
    (s.clearDisarm c).queue = s.queue ∧ (s.clearDisarm c).transfers = s.transfers ∧
    (s.clearDisarm c).hold = s.hold ∧ (s.clearDisarm c).alarms = s.alarms ∧
    (s.clearDisarm c).attention = s.attention ∧ (s.clearDisarm c).log = s.log ∧
    (s.clearDisarm c).ports = s.ports := by
  unfold State.clearDisarm; simp

@[simp] theorem State.endOutstanding_frame (s : State) :
    (s.endOutstanding).pending = s.pending ∧ (s.endOutstanding).powered = s.powered ∧
    (s.endOutstanding).settings = s.settings ∧ (s.endOutstanding).image = s.image ∧
    (s.endOutstanding).saving = s.saving ∧ (s.endOutstanding).restartDeferred = s.restartDeferred ∧
    (s.endOutstanding).partTime = s.partTime ∧ (s.endOutstanding).conns = s.conns ∧
    (s.endOutstanding).metering = s.metering ∧ (s.endOutstanding).engine = s.engine ∧
    (s.endOutstanding).queue = s.queue ∧ (s.endOutstanding).transfers = s.transfers ∧
    (s.endOutstanding).hold = s.hold ∧ (s.endOutstanding).alarms = s.alarms ∧
    (s.endOutstanding).attention = s.attention ∧ (s.endOutstanding).log = s.log ∧
    (s.endOutstanding).ports = s.ports := by
  unfold State.endOutstanding; simp

@[simp] theorem State.startRound_frame (s : State) :
    (s.startRound).pending = s.pending ∧ (s.startRound).powered = s.powered ∧
    (s.startRound).settings = s.settings ∧ (s.startRound).image = s.image ∧
    (s.startRound).saving = s.saving ∧ (s.startRound).restartDeferred = s.restartDeferred ∧
    (s.startRound).partTime = s.partTime ∧ (s.startRound).conns = s.conns ∧
    (s.startRound).metering = s.metering ∧ (s.startRound).engine = s.engine ∧
    (s.startRound).queue = s.queue ∧ (s.startRound).transfers = s.transfers ∧ (s.startRound).hold = s.hold ∧
    (s.startRound).alarms = s.alarms ∧ (s.startRound).attention = s.attention ∧ (s.startRound).log = s.log ∧
    (s.startRound).ports = s.ports := by
  unfold State.startRound; simp

@[simp] theorem State.restartSurveyTimer_frame (s : State) :
    (s.restartSurveyTimer).pending = s.pending ∧ (s.restartSurveyTimer).powered = s.powered ∧
    (s.restartSurveyTimer).settings = s.settings ∧ (s.restartSurveyTimer).image = s.image ∧
    (s.restartSurveyTimer).saving = s.saving ∧ (s.restartSurveyTimer).restartDeferred = s.restartDeferred ∧
    (s.restartSurveyTimer).partTime = s.partTime ∧ (s.restartSurveyTimer).conns = s.conns ∧
    (s.restartSurveyTimer).metering = s.metering ∧ (s.restartSurveyTimer).engine = s.engine ∧
    (s.restartSurveyTimer).queue = s.queue ∧ (s.restartSurveyTimer).transfers = s.transfers ∧
    (s.restartSurveyTimer).hold = s.hold ∧ (s.restartSurveyTimer).alarms = s.alarms ∧
    (s.restartSurveyTimer).attention = s.attention ∧ (s.restartSurveyTimer).log = s.log ∧
    (s.restartSurveyTimer).ports = s.ports := by
  unfold State.restartSurveyTimer; simp

@[simp] theorem State.expireSurveyTimer_frame (s : State) :
    (s.expireSurveyTimer).pending = s.pending ∧ (s.expireSurveyTimer).powered = s.powered ∧
    (s.expireSurveyTimer).settings = s.settings ∧ (s.expireSurveyTimer).image = s.image ∧
    (s.expireSurveyTimer).saving = s.saving ∧ (s.expireSurveyTimer).restartDeferred = s.restartDeferred ∧
    (s.expireSurveyTimer).partTime = s.partTime ∧ (s.expireSurveyTimer).conns = s.conns ∧
    (s.expireSurveyTimer).metering = s.metering ∧ (s.expireSurveyTimer).engine = s.engine ∧
    (s.expireSurveyTimer).queue = s.queue ∧ (s.expireSurveyTimer).transfers = s.transfers ∧
    (s.expireSurveyTimer).hold = s.hold ∧ (s.expireSurveyTimer).alarms = s.alarms ∧
    (s.expireSurveyTimer).attention = s.attention ∧ (s.expireSurveyTimer).log = s.log ∧
    (s.expireSurveyTimer).ports = s.ports := by
  unfold State.expireSurveyTimer; repeat' split
  all_goals simp

@[simp] theorem State.endSurveyPoll_frame (s : State) :
    (s.endSurveyPoll).pending = s.pending ∧ (s.endSurveyPoll).powered = s.powered ∧
    (s.endSurveyPoll).settings = s.settings ∧ (s.endSurveyPoll).image = s.image ∧
    (s.endSurveyPoll).saving = s.saving ∧ (s.endSurveyPoll).restartDeferred = s.restartDeferred ∧
    (s.endSurveyPoll).partTime = s.partTime ∧ (s.endSurveyPoll).conns = s.conns ∧
    (s.endSurveyPoll).metering = s.metering ∧ (s.endSurveyPoll).engine = s.engine ∧
    (s.endSurveyPoll).queue = s.queue ∧ (s.endSurveyPoll).transfers = s.transfers ∧
    (s.endSurveyPoll).hold = s.hold ∧ (s.endSurveyPoll).alarms = s.alarms ∧
    (s.endSurveyPoll).attention = s.attention ∧ (s.endSurveyPoll).log = s.log ∧
    (s.endSurveyPoll).ports = s.ports := by
  unfold State.endSurveyPoll; repeat' split
  all_goals simp

@[simp] theorem State.send_frame (s : State) (c : ConnId) (r : BusRequest) (q : Raiser) :
    (s.send c r q).pending = s.pending ∧ (s.send c r q).powered = s.powered ∧
    (s.send c r q).settings = s.settings ∧ (s.send c r q).image = s.image ∧
    (s.send c r q).saving = s.saving ∧ (s.send c r q).restartDeferred = s.restartDeferred ∧
    (s.send c r q).partTime = s.partTime ∧ (s.send c r q).conns = s.conns ∧
    (s.send c r q).metering = s.metering ∧ (s.send c r q).engine = s.engine ∧
    (s.send c r q).queue = s.queue ∧ (s.send c r q).transfers = s.transfers ∧ (s.send c r q).hold = s.hold ∧
    (s.send c r q).alarms = s.alarms ∧ (s.send c r q).attention = s.attention ∧ (s.send c r q).log = s.log ∧
    (s.send c r q).ports = s.ports := by
  unfold State.send; simp

@[simp] theorem State.grantContext_frame (s : State) (k : CtxId) (x : Context) (r : CtxRequest) :
    (s.grantContext k x r).pending = s.pending ∧ (s.grantContext k x r).powered = s.powered ∧
    (s.grantContext k x r).settings = s.settings ∧ (s.grantContext k x r).image = s.image ∧
    (s.grantContext k x r).saving = s.saving ∧ (s.grantContext k x r).restartDeferred = s.restartDeferred ∧
    (s.grantContext k x r).partTime = s.partTime ∧ (s.grantContext k x r).conns = s.conns ∧
    (s.grantContext k x r).metering = s.metering ∧ (s.grantContext k x r).engine = s.engine ∧
    (s.grantContext k x r).queue = s.queue ∧ (s.grantContext k x r).hold = s.hold ∧
    (s.grantContext k x r).alarms = s.alarms ∧ (s.grantContext k x r).attention = s.attention ∧
    (s.grantContext k x r).log = s.log ∧ (s.grantContext k x r).ports = s.ports := by
  unfold State.grantContext; repeat' split
  all_goals simp

@[simp] theorem State.grantSurvey_frame (s : State) :
    (s.grantSurvey).pending = s.pending ∧ (s.grantSurvey).powered = s.powered ∧
    (s.grantSurvey).settings = s.settings ∧ (s.grantSurvey).image = s.image ∧
    (s.grantSurvey).saving = s.saving ∧ (s.grantSurvey).restartDeferred = s.restartDeferred ∧
    (s.grantSurvey).partTime = s.partTime ∧ (s.grantSurvey).conns = s.conns ∧
    (s.grantSurvey).metering = s.metering ∧ (s.grantSurvey).engine = s.engine ∧
    (s.grantSurvey).queue = s.queue ∧ (s.grantSurvey).transfers = s.transfers ∧
    (s.grantSurvey).hold = s.hold ∧ (s.grantSurvey).alarms = s.alarms ∧
    (s.grantSurvey).attention = s.attention ∧ (s.grantSurvey).log = s.log ∧ (s.grantSurvey).ports = s.ports := by
  unfold State.grantSurvey; repeat' split
  all_goals simp

@[simp] theorem State.grantRoutine_frame (s : State) :
    (s.grantRoutine).pending = s.pending ∧ (s.grantRoutine).powered = s.powered ∧
    (s.grantRoutine).settings = s.settings ∧ (s.grantRoutine).image = s.image ∧
    (s.grantRoutine).saving = s.saving ∧ (s.grantRoutine).restartDeferred = s.restartDeferred ∧
    (s.grantRoutine).partTime = s.partTime ∧ (s.grantRoutine).conns = s.conns ∧
    (s.grantRoutine).metering = s.metering ∧ (s.grantRoutine).engine = s.engine ∧
    (s.grantRoutine).queue = s.queue ∧ (s.grantRoutine).transfers = s.transfers ∧
    (s.grantRoutine).hold = s.hold ∧ (s.grantRoutine).alarms = s.alarms ∧
    (s.grantRoutine).attention = s.attention ∧ (s.grantRoutine).log = s.log ∧ (s.grantRoutine).ports = s.ports := by
  unfold State.grantRoutine; split
  · dsimp only; split <;> simp
  · simp

@[simp] theorem State.arbitrate_frame (s : State) :
    (s.arbitrate).pending = s.pending ∧ (s.arbitrate).powered = s.powered ∧
    (s.arbitrate).settings = s.settings ∧ (s.arbitrate).image = s.image ∧ (s.arbitrate).saving = s.saving ∧
    (s.arbitrate).restartDeferred = s.restartDeferred ∧ (s.arbitrate).partTime = s.partTime ∧
    (s.arbitrate).conns = s.conns ∧ (s.arbitrate).metering = s.metering ∧ (s.arbitrate).engine = s.engine ∧
    (s.arbitrate).queue = s.queue ∧ (s.arbitrate).hold = s.hold ∧ (s.arbitrate).alarms = s.alarms ∧
    (s.arbitrate).attention = s.attention ∧ (s.arbitrate).log = s.log ∧ (s.arbitrate).ports = s.ports := by
  unfold State.arbitrate; repeat' split
  all_goals simp

@[simp] theorem State.enterMismatch_frame (s : State) (c : ConnId) (w : Word) :
    (s.enterMismatch c w).pending = s.pending ∧ (s.enterMismatch c w).powered = s.powered ∧
    (s.enterMismatch c w).settings = s.settings ∧ (s.enterMismatch c w).image = s.image ∧
    (s.enterMismatch c w).saving = s.saving ∧ (s.enterMismatch c w).restartDeferred = s.restartDeferred ∧
    (s.enterMismatch c w).partTime = s.partTime ∧ (s.enterMismatch c w).metering = s.metering ∧
    (s.enterMismatch c w).engine = s.engine ∧ (s.enterMismatch c w).queue = s.queue ∧
    (s.enterMismatch c w).bus = s.bus ∧ (s.enterMismatch c w).transfers = s.transfers ∧
    (s.enterMismatch c w).hold = s.hold ∧ (s.enterMismatch c w).attention = s.attention ∧
    (s.enterMismatch c w).log = s.log ∧ (s.enterMismatch c w).ports = s.ports := by
  unfold State.enterMismatch; simp

@[simp] theorem State.presenceReply_frame (s : State) (c : ConnId) (w : Word) :
    (s.presenceReply c w).1.pending = s.pending ∧ (s.presenceReply c w).1.powered = s.powered ∧
    (s.presenceReply c w).1.settings = s.settings ∧ (s.presenceReply c w).1.image = s.image ∧
    (s.presenceReply c w).1.saving = s.saving ∧
    (s.presenceReply c w).1.restartDeferred = s.restartDeferred ∧
    (s.presenceReply c w).1.partTime = s.partTime ∧ (s.presenceReply c w).1.metering = s.metering ∧
    (s.presenceReply c w).1.engine = s.engine ∧ (s.presenceReply c w).1.queue = s.queue ∧
    (s.presenceReply c w).1.bus = s.bus ∧ (s.presenceReply c w).1.transfers = s.transfers ∧
    (s.presenceReply c w).1.hold = s.hold ∧ (s.presenceReply c w).1.attention = s.attention ∧
    (s.presenceReply c w).1.log = s.log ∧ (s.presenceReply c w).1.ports = s.ports := by
  unfold State.presenceReply; dsimp only; repeat' split
  all_goals simp


@[simp] theorem State.presenceLapse_frame (s : State) (c : ConnId) :
    (s.presenceLapse c).pending = s.pending ∧ (s.presenceLapse c).powered = s.powered ∧
    (s.presenceLapse c).settings = s.settings ∧ (s.presenceLapse c).image = s.image ∧
    (s.presenceLapse c).saving = s.saving ∧ (s.presenceLapse c).restartDeferred = s.restartDeferred ∧
    (s.presenceLapse c).partTime = s.partTime ∧ (s.presenceLapse c).metering = s.metering ∧
    (s.presenceLapse c).engine = s.engine ∧ (s.presenceLapse c).queue = s.queue ∧
    (s.presenceLapse c).bus = s.bus ∧ (s.presenceLapse c).transfers = s.transfers ∧
    (s.presenceLapse c).hold = s.hold ∧ (s.presenceLapse c).attention = s.attention ∧
    (s.presenceLapse c).log = s.log ∧ (s.presenceLapse c).ports = s.ports := by
  unfold State.presenceLapse; dsimp only; repeat' split
  all_goals simp

@[simp] theorem State.takeReport_frame (s : State) (c : ConnId) (r : PollReport) :
    (s.takeReport c r).pending = s.pending ∧ (s.takeReport c r).powered = s.powered ∧
    (s.takeReport c r).settings = s.settings ∧ (s.takeReport c r).image = s.image ∧
    (s.takeReport c r).saving = s.saving ∧ (s.takeReport c r).restartDeferred = s.restartDeferred ∧
    (s.takeReport c r).partTime = s.partTime ∧ (s.takeReport c r).metering = s.metering ∧
    (s.takeReport c r).engine = s.engine ∧ (s.takeReport c r).queue = s.queue ∧
    (s.takeReport c r).bus = s.bus ∧ (s.takeReport c r).transfers = s.transfers ∧
    (s.takeReport c r).hold = s.hold ∧ (s.takeReport c r).alarms = s.alarms ∧
    (s.takeReport c r).attention = s.attention ∧ (s.takeReport c r).log = s.log ∧
    (s.takeReport c r).ports = s.ports := by
  unfold State.takeReport; simp

@[simp] theorem State.observeChange_frame (s : State) (c : ConnId) (p q : Phase) :
    (s.observeChange c p q).pending = s.pending ∧ (s.observeChange c p q).powered = s.powered ∧
    (s.observeChange c p q).settings = s.settings ∧ (s.observeChange c p q).image = s.image ∧
    (s.observeChange c p q).saving = s.saving ∧ (s.observeChange c p q).restartDeferred = s.restartDeferred ∧
    (s.observeChange c p q).partTime = s.partTime ∧ (s.observeChange c p q).metering = s.metering ∧
    (s.observeChange c p q).queue = s.queue ∧ (s.observeChange c p q).bus = s.bus ∧
    (s.observeChange c p q).transfers = s.transfers ∧ (s.observeChange c p q).hold = s.hold ∧
    (s.observeChange c p q).alarms = s.alarms ∧ (s.observeChange c p q).attention = s.attention ∧
    (s.observeChange c p q).ports = s.ports := by
  unfold State.observeChange; simp

@[simp] theorem State.takePhase_frame (s : State) (c : ConnId) (r : PollReport) :
    (s.takePhase c r).pending = s.pending ∧ (s.takePhase c r).powered = s.powered ∧
    (s.takePhase c r).settings = s.settings ∧ (s.takePhase c r).image = s.image ∧
    (s.takePhase c r).saving = s.saving ∧ (s.takePhase c r).restartDeferred = s.restartDeferred ∧
    (s.takePhase c r).partTime = s.partTime ∧ (s.takePhase c r).metering = s.metering ∧
    (s.takePhase c r).queue = s.queue ∧ (s.takePhase c r).bus = s.bus ∧
    (s.takePhase c r).transfers = s.transfers ∧ (s.takePhase c r).hold = s.hold ∧
    (s.takePhase c r).alarms = s.alarms ∧ (s.takePhase c r).attention = s.attention ∧
    (s.takePhase c r).ports = s.ports := by
  unfold State.takePhase; dsimp only; repeat' split
  all_goals simp

@[simp] theorem State.setLocal_frame (s : State) (c : ConnId) (b : Bool) :
    (s.setLocal c b).pending = s.pending ∧ (s.setLocal c b).powered = s.powered ∧
    (s.setLocal c b).settings = s.settings ∧ (s.setLocal c b).image = s.image ∧
    (s.setLocal c b).saving = s.saving ∧ (s.setLocal c b).restartDeferred = s.restartDeferred ∧
    (s.setLocal c b).partTime = s.partTime ∧ (s.setLocal c b).metering = s.metering ∧
    (s.setLocal c b).engine = s.engine ∧ (s.setLocal c b).queue = s.queue ∧ (s.setLocal c b).bus = s.bus ∧
    (s.setLocal c b).transfers = s.transfers ∧ (s.setLocal c b).hold = s.hold ∧
    (s.setLocal c b).alarms = s.alarms ∧ (s.setLocal c b).attention = s.attention ∧
    (s.setLocal c b).log = s.log ∧ (s.setLocal c b).ports = s.ports := by
  unfold State.setLocal; simp

@[simp] theorem State.checkStray_frame (s : State) (c : ConnId) (r : PollReport) :
    (s.checkStray c r).pending = s.pending ∧ (s.checkStray c r).powered = s.powered ∧
    (s.checkStray c r).settings = s.settings ∧ (s.checkStray c r).image = s.image ∧
    (s.checkStray c r).saving = s.saving ∧ (s.checkStray c r).restartDeferred = s.restartDeferred ∧
    (s.checkStray c r).partTime = s.partTime ∧ (s.checkStray c r).conns = s.conns ∧
    (s.checkStray c r).metering = s.metering ∧ (s.checkStray c r).engine = s.engine ∧
    (s.checkStray c r).queue = s.queue ∧ (s.checkStray c r).transfers = s.transfers ∧
    (s.checkStray c r).hold = s.hold ∧ (s.checkStray c r).alarms = s.alarms ∧
    (s.checkStray c r).attention = s.attention ∧ (s.checkStray c r).log = s.log ∧
    (s.checkStray c r).ports = s.ports := by
  unfold State.checkStray; repeat' split
  all_goals simp

@[simp] theorem State.takePoll_frame (s : State) (c : ConnId) (r : PollReport) :
    (s.takePoll c r).pending = s.pending ∧ (s.takePoll c r).powered = s.powered ∧
    (s.takePoll c r).settings = s.settings ∧ (s.takePoll c r).image = s.image ∧
    (s.takePoll c r).saving = s.saving ∧ (s.takePoll c r).restartDeferred = s.restartDeferred ∧
    (s.takePoll c r).partTime = s.partTime ∧ (s.takePoll c r).metering = s.metering ∧
    (s.takePoll c r).queue = s.queue ∧ (s.takePoll c r).transfers = s.transfers ∧
    (s.takePoll c r).hold = s.hold ∧ (s.takePoll c r).alarms = s.alarms ∧
    (s.takePoll c r).attention = s.attention ∧ (s.takePoll c r).ports = s.ports := by
  unfold State.takePoll; simp

@[simp] theorem State.supersede_frame (s : State) (c : ConnId) :
    (s.supersede c).pending = s.pending ∧ (s.supersede c).powered = s.powered ∧
    (s.supersede c).settings = s.settings ∧ (s.supersede c).image = s.image ∧
    (s.supersede c).saving = s.saving ∧ (s.supersede c).restartDeferred = s.restartDeferred ∧
    (s.supersede c).partTime = s.partTime ∧ (s.supersede c).metering = s.metering ∧
    (s.supersede c).bus = s.bus ∧ (s.supersede c).transfers = s.transfers ∧ (s.supersede c).hold = s.hold ∧
    (s.supersede c).alarms = s.alarms ∧ (s.supersede c).attention = s.attention ∧
    (s.supersede c).ports = s.ports := by
  unfold State.supersede; repeat' split
  all_goals simp

@[simp] theorem State.attachRemovals_frame (s : State) (c : ConnId) (x : Connection) :
    (s.attachRemovals c x).pending = s.pending ∧ (s.attachRemovals c x).powered = s.powered ∧
    (s.attachRemovals c x).settings = s.settings ∧ (s.attachRemovals c x).image = s.image ∧
    (s.attachRemovals c x).saving = s.saving ∧ (s.attachRemovals c x).restartDeferred = s.restartDeferred ∧
    (s.attachRemovals c x).partTime = s.partTime ∧ (s.attachRemovals c x).metering = s.metering ∧
    (s.attachRemovals c x).bus = s.bus ∧ (s.attachRemovals c x).transfers = s.transfers ∧
    (s.attachRemovals c x).hold = s.hold ∧ (s.attachRemovals c x).alarms = s.alarms ∧
    (s.attachRemovals c x).attention = s.attention ∧ (s.attachRemovals c x).ports = s.ports := by
  unfold State.attachRemovals; dsimp only; repeat' split
  all_goals simp

@[simp] theorem State.dispatch_frame (s : State) (k : CtxId) (o : Order) :
    (s.dispatch k o).pending = s.pending ∧ (s.dispatch k o).powered = s.powered ∧
    (s.dispatch k o).settings = s.settings ∧ (s.dispatch k o).image = s.image ∧
    (s.dispatch k o).saving = s.saving ∧ (s.dispatch k o).restartDeferred = s.restartDeferred ∧
    (s.dispatch k o).partTime = s.partTime ∧ (s.dispatch k o).metering = s.metering ∧
    (s.dispatch k o).engine = s.engine ∧ (s.dispatch k o).hold = s.hold ∧
    (s.dispatch k o).alarms = s.alarms ∧ (s.dispatch k o).attention = s.attention ∧
    (s.dispatch k o).log = s.log ∧ (s.dispatch k o).ports = s.ports := by
  unfold State.dispatch; simp

@[simp] theorem State.dispatchOnce_frame (s : State) :
    (s.dispatchOnce).pending = s.pending ∧ (s.dispatchOnce).powered = s.powered ∧
    (s.dispatchOnce).settings = s.settings ∧ (s.dispatchOnce).image = s.image ∧
    (s.dispatchOnce).saving = s.saving ∧ (s.dispatchOnce).restartDeferred = s.restartDeferred ∧
    (s.dispatchOnce).partTime = s.partTime ∧ (s.dispatchOnce).metering = s.metering ∧
    (s.dispatchOnce).engine = s.engine ∧ (s.dispatchOnce).hold = s.hold ∧
    (s.dispatchOnce).alarms = s.alarms ∧ (s.dispatchOnce).attention = s.attention ∧
    (s.dispatchOnce).log = s.log ∧ (s.dispatchOnce).ports = s.ports := by
  unfold State.dispatchOnce; repeat' split
  all_goals simp

@[simp] theorem State.dispatchChoice_frame (s : State) :
    (s.dispatchChoice).pending = s.pending ∧ (s.dispatchChoice).powered = s.powered ∧
    (s.dispatchChoice).settings = s.settings ∧ (s.dispatchChoice).image = s.image ∧
    (s.dispatchChoice).saving = s.saving ∧ (s.dispatchChoice).restartDeferred = s.restartDeferred ∧
    (s.dispatchChoice).partTime = s.partTime ∧ (s.dispatchChoice).metering = s.metering ∧
    (s.dispatchChoice).engine = s.engine ∧ (s.dispatchChoice).hold = s.hold ∧
    (s.dispatchChoice).alarms = s.alarms ∧ (s.dispatchChoice).attention = s.attention ∧
    (s.dispatchChoice).log = s.log ∧ (s.dispatchChoice).ports = s.ports := by
  unfold State.dispatchChoice; simp

@[simp] theorem State.takeFireSlot_frame (s : State) :
    (s.takeFireSlot).pending = s.pending ∧ (s.takeFireSlot).powered = s.powered ∧
    (s.takeFireSlot).settings = s.settings ∧ (s.takeFireSlot).image = s.image ∧
    (s.takeFireSlot).saving = s.saving ∧ (s.takeFireSlot).restartDeferred = s.restartDeferred ∧
    (s.takeFireSlot).partTime = s.partTime ∧ (s.takeFireSlot).conns = s.conns ∧
    (s.takeFireSlot).metering = s.metering ∧ (s.takeFireSlot).engine = s.engine ∧
    (s.takeFireSlot).queue = s.queue ∧ (s.takeFireSlot).bus = s.bus ∧ (s.takeFireSlot).hold = s.hold ∧
    (s.takeFireSlot).alarms = s.alarms ∧ (s.takeFireSlot).attention = s.attention ∧
    (s.takeFireSlot).log = s.log ∧ (s.takeFireSlot).ports = s.ports := by
  unfold State.takeFireSlot; repeat' split
  all_goals simp

@[simp] theorem State.finish_frame (s : State) :
    (s.finish).pending = s.pending ∧ (s.finish).powered = s.powered ∧ (s.finish).settings = s.settings ∧
    (s.finish).image = s.image ∧ (s.finish).saving = s.saving ∧
    (s.finish).restartDeferred = s.restartDeferred ∧ (s.finish).partTime = s.partTime ∧
    (s.finish).metering = s.metering ∧ (s.finish).engine = s.engine ∧ (s.finish).hold = s.hold ∧
    (s.finish).alarms = s.alarms ∧ (s.finish).log = s.log ∧ (s.finish).ports = s.ports := by
  unfold State.finish; simp

@[simp] theorem State.endTransfer_frame (s : State) (k : CtxId) (x : Context) (e : Ending) (d : Bool) :
    (s.endTransfer k x e d).pending = s.pending ∧ (s.endTransfer k x e d).powered = s.powered ∧
    (s.endTransfer k x e d).settings = s.settings ∧ (s.endTransfer k x e d).image = s.image ∧
    (s.endTransfer k x e d).saving = s.saving ∧ (s.endTransfer k x e d).restartDeferred = s.restartDeferred ∧
    (s.endTransfer k x e d).partTime = s.partTime ∧ (s.endTransfer k x e d).metering = s.metering ∧
    (s.endTransfer k x e d).queue = s.queue ∧ (s.endTransfer k x e d).hold = s.hold ∧
    (s.endTransfer k x e d).attention = s.attention ∧ (s.endTransfer k x e d).ports = s.ports := by
  unfold State.endTransfer; repeat' split
  all_goals simp

@[simp] theorem State.disarmContext_frame (s : State) (k : CtxId) (x : Context) :
    (s.disarmContext k x).pending = s.pending ∧ (s.disarmContext k x).powered = s.powered ∧
    (s.disarmContext k x).settings = s.settings ∧ (s.disarmContext k x).image = s.image ∧
    (s.disarmContext k x).saving = s.saving ∧ (s.disarmContext k x).restartDeferred = s.restartDeferred ∧
    (s.disarmContext k x).partTime = s.partTime ∧ (s.disarmContext k x).metering = s.metering ∧
    (s.disarmContext k x).hold = s.hold ∧ (s.disarmContext k x).attention = s.attention ∧
    (s.disarmContext k x).ports = s.ports := by
  unfold State.disarmContext; repeat' split
  all_goals simp

@[simp] theorem State.reachContext_frame (s : State) (k : CtxId) :
    (s.reachContext k).pending = s.pending ∧ (s.reachContext k).powered = s.powered ∧
    (s.reachContext k).settings = s.settings ∧ (s.reachContext k).image = s.image ∧
    (s.reachContext k).saving = s.saving ∧ (s.reachContext k).restartDeferred = s.restartDeferred ∧
    (s.reachContext k).partTime = s.partTime ∧ (s.reachContext k).metering = s.metering ∧
    (s.reachContext k).hold = s.hold ∧ (s.reachContext k).attention = s.attention ∧
    (s.reachContext k).ports = s.ports := by
  unfold State.reachContext; repeat' split
  all_goals simp

@[simp] theorem State.reachContexts_frame (s : State) :
    (s.reachContexts).pending = s.pending ∧ (s.reachContexts).powered = s.powered ∧
    (s.reachContexts).settings = s.settings ∧ (s.reachContexts).image = s.image ∧
    (s.reachContexts).saving = s.saving ∧ (s.reachContexts).restartDeferred = s.restartDeferred ∧
    (s.reachContexts).partTime = s.partTime ∧ (s.reachContexts).metering = s.metering ∧
    (s.reachContexts).hold = s.hold ∧ (s.reachContexts).attention = s.attention ∧
    (s.reachContexts).ports = s.ports := by
  unfold State.reachContexts; repeat' split
  all_goals simp

@[simp] theorem State.takeArmed_frame (s : State) (k : CtxId) (x : Context) (b : Bool) :
    (s.takeArmed k x b).pending = s.pending ∧ (s.takeArmed k x b).powered = s.powered ∧
    (s.takeArmed k x b).settings = s.settings ∧ (s.takeArmed k x b).image = s.image ∧
    (s.takeArmed k x b).saving = s.saving ∧ (s.takeArmed k x b).restartDeferred = s.restartDeferred ∧
    (s.takeArmed k x b).partTime = s.partTime ∧ (s.takeArmed k x b).metering = s.metering ∧
    (s.takeArmed k x b).hold = s.hold ∧ (s.takeArmed k x b).attention = s.attention ∧
    (s.takeArmed k x b).ports = s.ports := by
  unfold State.takeArmed; repeat' split
  all_goals simp

@[simp] theorem State.takeRefusal_frame (s : State) (k : CtxId) (x : Context) (r : ArmRefusal) (b : Bool) :
    (s.takeRefusal k x r b).pending = s.pending ∧ (s.takeRefusal k x r b).powered = s.powered ∧
    (s.takeRefusal k x r b).settings = s.settings ∧ (s.takeRefusal k x r b).image = s.image ∧
    (s.takeRefusal k x r b).saving = s.saving ∧ (s.takeRefusal k x r b).restartDeferred = s.restartDeferred ∧
    (s.takeRefusal k x r b).partTime = s.partTime ∧ (s.takeRefusal k x r b).metering = s.metering ∧
    (s.takeRefusal k x r b).hold = s.hold ∧ (s.takeRefusal k x r b).attention = s.attention ∧
    (s.takeRefusal k x r b).ports = s.ports := by
  unfold State.takeRefusal; repeat' split
  all_goals simp

@[simp] theorem State.takeFiring_frame (s : State) (k : CtxId) (x : Context) :
    (s.takeFiring k x).pending = s.pending ∧ (s.takeFiring k x).powered = s.powered ∧
    (s.takeFiring k x).settings = s.settings ∧ (s.takeFiring k x).image = s.image ∧
    (s.takeFiring k x).saving = s.saving ∧ (s.takeFiring k x).restartDeferred = s.restartDeferred ∧
    (s.takeFiring k x).partTime = s.partTime ∧ (s.takeFiring k x).metering = s.metering ∧
    (s.takeFiring k x).hold = s.hold ∧ (s.takeFiring k x).attention = s.attention ∧
    (s.takeFiring k x).ports = s.ports := by
  unfold State.takeFiring; simp

@[simp] theorem State.reArm_frame (s : State) (k : CtxId) (x : Context) :
    (s.reArm k x).pending = s.pending ∧ (s.reArm k x).powered = s.powered ∧
    (s.reArm k x).settings = s.settings ∧ (s.reArm k x).image = s.image ∧ (s.reArm k x).saving = s.saving ∧
    (s.reArm k x).restartDeferred = s.restartDeferred ∧ (s.reArm k x).partTime = s.partTime ∧
    (s.reArm k x).metering = s.metering ∧ (s.reArm k x).hold = s.hold ∧
    (s.reArm k x).attention = s.attention ∧ (s.reArm k x).ports = s.ports := by
  unfold State.reArm; simp

@[simp] theorem State.takeNotArmed_frame (s : State) (k : CtxId) (x : Context) (b : Bool) :
    (s.takeNotArmed k x b).pending = s.pending ∧ (s.takeNotArmed k x b).powered = s.powered ∧
    (s.takeNotArmed k x b).settings = s.settings ∧ (s.takeNotArmed k x b).image = s.image ∧
    (s.takeNotArmed k x b).saving = s.saving ∧ (s.takeNotArmed k x b).restartDeferred = s.restartDeferred ∧
    (s.takeNotArmed k x b).partTime = s.partTime ∧ (s.takeNotArmed k x b).metering = s.metering ∧
    (s.takeNotArmed k x b).hold = s.hold ∧ (s.takeNotArmed k x b).attention = s.attention ∧
    (s.takeNotArmed k x b).ports = s.ports := by
  unfold State.takeNotArmed; repeat' split
  all_goals simp

@[simp] theorem State.takeConfirm_frame (s : State) (k : CtxId) (x : Context) (r : PollReport) (b : Bool) :
    (s.takeConfirm k x r b).pending = s.pending ∧ (s.takeConfirm k x r b).powered = s.powered ∧
    (s.takeConfirm k x r b).settings = s.settings ∧ (s.takeConfirm k x r b).image = s.image ∧
    (s.takeConfirm k x r b).saving = s.saving ∧ (s.takeConfirm k x r b).restartDeferred = s.restartDeferred ∧
    (s.takeConfirm k x r b).partTime = s.partTime ∧ (s.takeConfirm k x r b).metering = s.metering ∧
    (s.takeConfirm k x r b).hold = s.hold ∧ (s.takeConfirm k x r b).attention = s.attention ∧
    (s.takeConfirm k x r b).ports = s.ports := by
  unfold State.takeConfirm; repeat' split
  all_goals simp

@[simp] theorem State.handReply_frame (s : State) (o : Outstanding) (r : Reply) (b : Bool) :
    (s.handReply o r b).pending = s.pending ∧ (s.handReply o r b).powered = s.powered ∧
    (s.handReply o r b).settings = s.settings ∧ (s.handReply o r b).image = s.image ∧
    (s.handReply o r b).saving = s.saving ∧ (s.handReply o r b).restartDeferred = s.restartDeferred ∧
    (s.handReply o r b).partTime = s.partTime ∧ (s.handReply o r b).metering = s.metering ∧
    (s.handReply o r b).hold = s.hold ∧ (s.handReply o r b).attention = s.attention ∧
    (s.handReply o r b).ports = s.ports := by
  unfold State.handReply; repeat' split
  all_goals simp

@[simp] theorem State.lapseArm_frame (s : State) (k : CtxId) (x : Context) :
    (s.lapseArm k x).pending = s.pending ∧ (s.lapseArm k x).powered = s.powered ∧
    (s.lapseArm k x).settings = s.settings ∧ (s.lapseArm k x).image = s.image ∧
    (s.lapseArm k x).saving = s.saving ∧ (s.lapseArm k x).restartDeferred = s.restartDeferred ∧
    (s.lapseArm k x).partTime = s.partTime ∧ (s.lapseArm k x).metering = s.metering ∧
    (s.lapseArm k x).hold = s.hold ∧ (s.lapseArm k x).attention = s.attention ∧
    (s.lapseArm k x).ports = s.ports := by
  unfold State.lapseArm; repeat' split
  all_goals simp

@[simp] theorem State.lapseFire_frame (s : State) (k : CtxId) (x : Context) :
    (s.lapseFire k x).pending = s.pending ∧ (s.lapseFire k x).powered = s.powered ∧
    (s.lapseFire k x).settings = s.settings ∧ (s.lapseFire k x).image = s.image ∧
    (s.lapseFire k x).saving = s.saving ∧ (s.lapseFire k x).restartDeferred = s.restartDeferred ∧
    (s.lapseFire k x).partTime = s.partTime ∧ (s.lapseFire k x).metering = s.metering ∧
    (s.lapseFire k x).hold = s.hold ∧ (s.lapseFire k x).attention = s.attention ∧
    (s.lapseFire k x).ports = s.ports := by
  unfold State.lapseFire; repeat' split
  all_goals simp

@[simp] theorem State.handLapse_frame (s : State) (o : Outstanding) :
    (s.handLapse o).pending = s.pending ∧ (s.handLapse o).powered = s.powered ∧
    (s.handLapse o).settings = s.settings ∧ (s.handLapse o).image = s.image ∧
    (s.handLapse o).saving = s.saving ∧ (s.handLapse o).restartDeferred = s.restartDeferred ∧
    (s.handLapse o).partTime = s.partTime ∧ (s.handLapse o).metering = s.metering ∧
    (s.handLapse o).hold = s.hold ∧ (s.handLapse o).attention = s.attention ∧ (s.handLapse o).ports = s.ports := by
  unfold State.handLapse; repeat' split
  all_goals simp

end Sys2Proof.Machine
end

