-- ==== Sys2Proof/Laws/Access.lean ====
section
/-!
SUPPORT. Reading after writing, for every collection of the state: a connection record, a context, a port, a phase, a
setting; and equality of states by their fields.
-/

namespace Sys2Proof

@[simp] theorem PerPhase.get_set_self {α : Type} (v : PerPhase α) (p : Phase) (x : α) : (v.set p x).get p = x := by
  cases p <;> rfl

theorem PerPhase.get_set {α : Type} (v : PerPhase α) (p q : Phase) (x : α) :
    (v.set p x).get q = if q = p then x else v.get q := by
  cases p <;> cases q <;> rfl

@[simp] theorem PerPhase.get_map {α β : Type} (f : α → β) (v : PerPhase α) (p : Phase) :
    (v.map f).get p = f (v.get p) := by
  cases p <;> rfl

@[simp] theorem PerPhase.get_zipWith {α β γ : Type} (f : α → β → γ) (v : PerPhase α) (w : PerPhase β) (p : Phase) :
    (v.zipWith f w).get p = f (v.get p) (w.get p) := by
  cases p <;> rfl

namespace Machine

@[simp] theorem PerPort.get_set_self {α : Type} (v : PerPort α) (p : Port) (x : α) : (v.set p x).get p = x := by
  cases p <;> rfl

theorem PerPort.get_set {α : Type} (v : PerPort α) (p q : Port) (x : α) :
    (v.set p x).get q = if q = p then x else v.get q := by
  cases p <;> cases q <;> rfl

@[simp] theorem PerPort.set_set {α : Type} (v : PerPort α) (p : Port) (x y : α) : (v.set p x).set p y = v.set p y := by
  cases p <;> rfl

@[simp] theorem PerPort.set_get {α : Type} (v : PerPort α) (p : Port) : v.set p (v.get p) = v := by
  cases p <;> rfl

@[simp] theorem PerPort.get_map {α β : Type} (f : α → β) (v : PerPort α) (p : Port) :
    (v.map f).get p = f (v.get p) := by
  cases p <;> rfl

@[simp] theorem Transfers.get_put_self (t : Transfers) (k : CtxId) (x : Option Context) : (t.put k x).get k = x := by
  cases k <;> rfl

theorem Transfers.get_put (t : Transfers) (k j : CtxId) (x : Option Context) :
    (t.put k x).get j = if j = k then x else t.get j := by
  cases k <;> cases j <;> rfl

@[simp] theorem Transfers.put_fireSlot (t : Transfers) (k : CtxId) (x : Option Context) :
    (t.put k x).fireSlot = t.fireSlot := by
  cases k <;> rfl

@[simp] theorem Transfers.put_nextDispatch (t : Transfers) (k : CtxId) (x : Option Context) :
    (t.put k x).nextDispatch = t.nextDispatch := by
  cases k <;> rfl

/-! ### Connection records -/

theorem vector_get_set {α : Type} {n : Nat} (v : Vector α n) (i j : Fin n) (x : α) :
    (v.set i x).get j = if j = i then x else v.get j := by
  show (v.set i.val x)[j.val] = if j = i then x else v[j.val]
  rw [Vector.getElem_set]
  by_cases h : j = i
  · simp [h]
  · have : i.val ≠ j.val := fun e => h (Fin.ext e.symm)
    simp [h, this]

theorem vector_get_ofFn {α : Type} {n : Nat} (f : Fin n → α) (j : Fin n) : (Vector.ofFn f).get j = f j := by
  show (Vector.ofFn f)[j.val] = f j
  simp

theorem vector_get_replicate {α : Type} {n : Nat} (x : α) (j : Fin n) : (Vector.replicate n x).get j = x := by
  show (Vector.replicate n x)[j.val] = x
  simp

theorem State.setConn_conn (s : State) (c d : ConnId) (x : Connection) :
    (s.setConn c x).conn d = if d = c then x else s.conn d := vector_get_set s.conns c d x

@[simp] theorem State.setConn_conn_self (s : State) (c : ConnId) (x : Connection) : (s.setConn c x).conn c = x := by
  simp [State.setConn_conn]

theorem State.modConn_conn (s : State) (c d : ConnId) (f : Connection → Connection) :
    (s.modConn c f).conn d = if d = c then f (s.conn c) else s.conn d := by
  simp [State.modConn, State.setConn_conn]

@[simp] theorem State.modConn_conn_self (s : State) (c : ConnId) (f : Connection → Connection) :
    (s.modConn c f).conn c = f (s.conn c) := by
  simp [State.modConn_conn]

@[simp] theorem State.mapConns_conn (s : State) (f : ConnId → Connection → Connection) (d : ConnId) :
    (s.mapConns f).conn d = f d (s.conn d) := by
  simp [State.conn, State.mapConns]

theorem State.setMotion_conn (s : State) (c d : ConnId) (m : Motion) :
    (s.setMotion c m).conn d = if d = c then { s.conn c with motion := m } else s.conn d := by
  simp [State.setMotion, State.modConn_conn]

/-- A connection record depends on the connection table alone. -/
theorem State.conn_congr {s t : State} (h : t.conns = s.conns) (c : ConnId) : t.conn c = s.conn c := by
  simp [State.conn, h]

theorem State.setting_congr {s t : State} (h : t.settings = s.settings) (i : SettingId) : t.setting i = s.setting i := by
  simp [State.setting, h]

theorem State.config_congr {s t : State} (h : t.settings = s.settings) (c : ConnId) : t.config c = s.config c := by
  simp [State.config, h]

theorem State.context_congr {s t : State} (h : t.transfers = s.transfers) (k : CtxId) : t.context k = s.context k := by
  simp [State.context, h]

/-! ### Contexts -/

theorem State.setContext_context (s : State) (k j : CtxId) (x : Option Context) :
    (s.setContext k x).context j = if j = k then x else s.context j := by
  simp [State.context, State.setContext, Transfers.get_put]

@[simp] theorem State.setContext_context_self (s : State) (k : CtxId) (x : Option Context) :
    (s.setContext k x).context k = x := by
  simp [State.setContext_context]

theorem State.releaseContext_context (s : State) (k j : CtxId) :
    (s.releaseContext k).context j = if j = k then none else s.context j := by
  simp only [State.context, State.releaseContext, State.withTransfers_transfers]
  cases k <;> cases j <;> rfl

/-! ### Settings -/

/-- Distinct settings have distinct numbers (R188). -/
theorem SettingId.number_inj {i j : SettingId} : i.number = j.number ↔ i = j := by
  cases i <;> cases j <;> decide

theorem Settings.setNumeric_get (st : Settings) (i j : SettingId) (n : Nat) :
    (st.setNumeric i n).numeric.get j.number = if j = i then n else st.numeric.get j.number := by
  simp only [Settings.setNumeric, vector_get_set, SettingId.number_inj]

/-! ### Ports -/

theorem State.setPort_ports (s : State) (p q : Port) (x : PortState) :
    (s.withPorts (s.ports.set p x)).ports.get q = if q = p then x else s.ports.get q := by
  simp [PerPort.get_set]

/-! ### Equality by fields -/

/-- Two states with equal fields are equal. -/
theorem State.eq_of_fields {s t : State} (h1 : s.pending = t.pending) (h2 : s.powered = t.powered)
    (h3 : s.settings = t.settings) (h4 : s.image = t.image) (h5 : s.saving = t.saving)
    (h6 : s.restartDeferred = t.restartDeferred) (h7 : s.partTime = t.partTime) (h8 : s.conns = t.conns)
    (h9 : s.metering = t.metering) (h10 : s.engine = t.engine) (h11 : s.queue = t.queue) (h12 : s.bus = t.bus)
    (h13 : s.transfers = t.transfers) (h14 : s.hold = t.hold) (h15 : s.alarms = t.alarms)
    (h16 : s.attention = t.attention) (h17 : s.log = t.log) (h18 : s.ports = t.ports) : s = t := by
  cases s; cases t; simp_all

end Machine

end Sys2Proof
end

