-- ==== Sys2Proof/Laws/EventFrames.lean ====
section
/-!
SUPPORT. The frame of every shared operation of the reset, the engine, the metering input, the ports and the events.
-/

namespace Sys2Proof.Machine

/-- A fold of operations that each leave a part of the state leaves it. -/
theorem foldl_keeps {α β : Type} (f : State → α → State) (g : State → β) (h : ∀ s a, g (f s a) = g s) (l : List α)
    (s : State) : g (l.foldl f s) = g s := by
  induction l generalizing s with
  | nil => rfl
  | cons a l ih => rw [List.foldl_cons, ih, h]

@[simp] theorem State.cancelAll_frame (s : State) :
    (s.cancelAll).pending = s.pending ∧ (s.cancelAll).powered = s.powered ∧
    (s.cancelAll).settings = s.settings ∧ (s.cancelAll).image = s.image ∧ (s.cancelAll).saving = s.saving ∧
    (s.cancelAll).restartDeferred = s.restartDeferred ∧ (s.cancelAll).partTime = s.partTime ∧
    (s.cancelAll).metering = s.metering ∧ (s.cancelAll).engine = s.engine ∧ (s.cancelAll).bus = s.bus ∧
    (s.cancelAll).transfers = s.transfers ∧ (s.cancelAll).hold = s.hold ∧ (s.cancelAll).alarms = s.alarms ∧
    (s.cancelAll).attention = s.attention ∧ (s.cancelAll).ports = s.ports := by
  unfold State.cancelAll
  refine ⟨?_, ?_, ?_, ?_, ?_, ?_, ?_, ?_, ?_, ?_, ?_, ?_, ?_, ?_, ?_⟩
  all_goals exact foldl_keeps _ _ (fun s o => by simp) _ _


@[simp] theorem State.loadImage_frame (s : State) :
    (s.loadImage).pending = s.pending ∧ (s.loadImage).powered = s.powered ∧ (s.loadImage).image = s.image ∧
    (s.loadImage).saving = s.saving ∧ (s.loadImage).restartDeferred = s.restartDeferred ∧
    (s.loadImage).partTime = s.partTime ∧ (s.loadImage).conns = s.conns ∧
    (s.loadImage).metering = s.metering ∧ (s.loadImage).engine = s.engine ∧ (s.loadImage).queue = s.queue ∧
    (s.loadImage).bus = s.bus ∧ (s.loadImage).transfers = s.transfers ∧ (s.loadImage).hold = s.hold ∧
    (s.loadImage).attention = s.attention ∧ (s.loadImage).log = s.log ∧ (s.loadImage).ports = s.ports := by
  unfold State.loadImage; simp

@[simp] theorem State.restartBlocks_frame (s : State) :
    (s.restartBlocks).pending = s.pending ∧ (s.restartBlocks).powered = s.powered ∧
    (s.restartBlocks).settings = s.settings ∧ (s.restartBlocks).image = s.image ∧
    (s.restartBlocks).saving = s.saving ∧ (s.restartBlocks).partTime = s.partTime ∧
    (s.restartBlocks).hold = s.hold ∧ (s.restartBlocks).alarms = s.alarms ∧
    (s.restartBlocks).attention = s.attention ∧ (s.restartBlocks).log = s.log := by
  unfold State.restartBlocks; simp

@[simp] theorem State.restartEffect_frame (s : State) :
    (s.restartEffect).pending = s.pending ∧ (s.restartEffect).powered = s.powered ∧
    (s.restartEffect).image = s.image ∧ (s.restartEffect).saving = s.saving ∧
    (s.restartEffect).partTime = s.partTime ∧ (s.restartEffect).hold = s.hold ∧
    (s.restartEffect).attention = s.attention := by
  unfold State.restartEffect; simp

@[simp] theorem State.restartIfDue_frame (s : State) :
    (s.restartIfDue).pending = s.pending ∧ (s.restartIfDue).powered = s.powered ∧
    (s.restartIfDue).image = s.image ∧ (s.restartIfDue).saving = s.saving ∧
    (s.restartIfDue).partTime = s.partTime ∧ (s.restartIfDue).hold = s.hold ∧
    (s.restartIfDue).attention = s.attention := by
  unfold State.restartIfDue; split <;> simp

@[simp] theorem State.finishTransfer_frame (s : State) :
    (s.finishTransfer).pending = s.pending ∧ (s.finishTransfer).powered = s.powered ∧
    (s.finishTransfer).image = s.image ∧ (s.finishTransfer).saving = s.saving ∧
    (s.finishTransfer).partTime = s.partTime ∧ (s.finishTransfer).hold = s.hold := by
  unfold State.finishTransfer; simp

@[simp] theorem State.offer_frame (s : State) (t : Option TriggerId) (es : List PlanEntry) :
    (s.offer t es).1.pending = s.pending ∧ (s.offer t es).1.powered = s.powered ∧
    (s.offer t es).1.settings = s.settings ∧ (s.offer t es).1.image = s.image ∧
    (s.offer t es).1.saving = s.saving ∧ (s.offer t es).1.restartDeferred = s.restartDeferred ∧
    (s.offer t es).1.partTime = s.partTime ∧ (s.offer t es).1.metering = s.metering ∧
    (s.offer t es).1.bus = s.bus ∧ (s.offer t es).1.transfers = s.transfers ∧
    (s.offer t es).1.hold = s.hold ∧ (s.offer t es).1.alarms = s.alarms ∧
    (s.offer t es).1.attention = s.attention ∧ (s.offer t es).1.log = s.log ∧
    (s.offer t es).1.ports = s.ports := by
  induction es generalizing s with
  | nil => simp [State.offer]
  | cons e es ih =>
    unfold State.offer; split
    · have h := ih (s.enqueue e.conn e.target .balancer 1 (s.setting .balancerLifetime) t (some e.gain.toNat))
      simp only [State.enqueue_frame] at h
      exact h
    · simp

@[simp] theorem State.runPass_frame (s : State) (t : Option TriggerId) :
    (s.runPass t).pending = s.pending ∧ (s.runPass t).powered = s.powered ∧
    (s.runPass t).settings = s.settings ∧ (s.runPass t).image = s.image ∧ (s.runPass t).saving = s.saving ∧
    (s.runPass t).restartDeferred = s.restartDeferred ∧ (s.runPass t).partTime = s.partTime ∧
    (s.runPass t).metering = s.metering ∧ (s.runPass t).bus = s.bus ∧ (s.runPass t).transfers = s.transfers ∧
    (s.runPass t).hold = s.hold ∧ (s.runPass t).alarms = s.alarms ∧ (s.runPass t).attention = s.attention ∧
    (s.runPass t).log = s.log ∧ (s.runPass t).ports = s.ports := by
  unfold State.runPass; simp


@[simp] theorem State.passDue_frame (s : State) (t : Option TriggerId) :
    (s.passDue t).pending = s.pending ∧ (s.passDue t).powered = s.powered ∧
    (s.passDue t).settings = s.settings ∧ (s.passDue t).image = s.image ∧ (s.passDue t).saving = s.saving ∧
    (s.passDue t).restartDeferred = s.restartDeferred ∧ (s.passDue t).partTime = s.partTime ∧
    (s.passDue t).metering = s.metering ∧ (s.passDue t).bus = s.bus ∧ (s.passDue t).transfers = s.transfers ∧
    (s.passDue t).hold = s.hold ∧ (s.passDue t).alarms = s.alarms ∧ (s.passDue t).attention = s.attention ∧
    (s.passDue t).log = s.log ∧ (s.passDue t).ports = s.ports := by
  unfold State.passDue; split <;> simp

@[simp] theorem State.watchWindow_frame (s : State) (t : Option TriggerId) :
    (s.watchWindow t).pending = s.pending ∧ (s.watchWindow t).powered = s.powered ∧
    (s.watchWindow t).settings = s.settings ∧ (s.watchWindow t).image = s.image ∧
    (s.watchWindow t).saving = s.saving ∧ (s.watchWindow t).restartDeferred = s.restartDeferred ∧
    (s.watchWindow t).partTime = s.partTime ∧ (s.watchWindow t).metering = s.metering ∧
    (s.watchWindow t).bus = s.bus ∧ (s.watchWindow t).transfers = s.transfers ∧
    (s.watchWindow t).hold = s.hold ∧ (s.watchWindow t).alarms = s.alarms ∧
    (s.watchWindow t).attention = s.attention ∧ (s.watchWindow t).log = s.log ∧
    (s.watchWindow t).ports = s.ports := by
  unfold State.watchWindow; repeat' split
  all_goals simp

@[simp] theorem State.evaluateAll_frame (s : State) :
    (s.evaluateAll).pending = s.pending ∧ (s.evaluateAll).powered = s.powered ∧
    (s.evaluateAll).settings = s.settings ∧ (s.evaluateAll).image = s.image ∧
    (s.evaluateAll).saving = s.saving ∧ (s.evaluateAll).restartDeferred = s.restartDeferred ∧
    (s.evaluateAll).partTime = s.partTime ∧ (s.evaluateAll).conns = s.conns ∧
    (s.evaluateAll).metering = s.metering ∧ (s.evaluateAll).queue = s.queue ∧ (s.evaluateAll).bus = s.bus ∧
    (s.evaluateAll).transfers = s.transfers ∧ (s.evaluateAll).hold = s.hold ∧
    (s.evaluateAll).alarms = s.alarms ∧ (s.evaluateAll).attention = s.attention ∧
    (s.evaluateAll).log = s.log ∧ (s.evaluateAll).ports = s.ports := by
  unfold State.evaluateAll; simp

@[simp] theorem State.notePending_frame (s : State) (t : Option TriggerId) :
    (s.notePending t).pending = s.pending ∧ (s.notePending t).powered = s.powered ∧
    (s.notePending t).settings = s.settings ∧ (s.notePending t).image = s.image ∧
    (s.notePending t).saving = s.saving ∧ (s.notePending t).restartDeferred = s.restartDeferred ∧
    (s.notePending t).partTime = s.partTime ∧ (s.notePending t).conns = s.conns ∧
    (s.notePending t).metering = s.metering ∧ (s.notePending t).queue = s.queue ∧
    (s.notePending t).bus = s.bus ∧ (s.notePending t).transfers = s.transfers ∧
    (s.notePending t).hold = s.hold ∧ (s.notePending t).alarms = s.alarms ∧
    (s.notePending t).attention = s.attention ∧ (s.notePending t).log = s.log ∧
    (s.notePending t).ports = s.ports := by
  unfold State.notePending; simp

@[simp] theorem State.enterWatch_frame (s : State) :
    (s.enterWatch).pending = s.pending ∧ (s.enterWatch).powered = s.powered ∧
    (s.enterWatch).settings = s.settings ∧ (s.enterWatch).image = s.image ∧
    (s.enterWatch).saving = s.saving ∧ (s.enterWatch).restartDeferred = s.restartDeferred ∧
    (s.enterWatch).partTime = s.partTime ∧ (s.enterWatch).metering = s.metering ∧
    (s.enterWatch).bus = s.bus ∧ (s.enterWatch).transfers = s.transfers ∧ (s.enterWatch).hold = s.hold ∧
    (s.enterWatch).alarms = s.alarms ∧ (s.enterWatch).attention = s.attention ∧ (s.enterWatch).log = s.log ∧
    (s.enterWatch).ports = s.ports := by
  unfold State.enterWatch; dsimp only; split <;> simp

@[simp] theorem State.countQuiet_frame (s : State) :
    (s.countQuiet).pending = s.pending ∧ (s.countQuiet).powered = s.powered ∧
    (s.countQuiet).settings = s.settings ∧ (s.countQuiet).image = s.image ∧
    (s.countQuiet).saving = s.saving ∧ (s.countQuiet).restartDeferred = s.restartDeferred ∧
    (s.countQuiet).partTime = s.partTime ∧ (s.countQuiet).metering = s.metering ∧
    (s.countQuiet).bus = s.bus ∧ (s.countQuiet).transfers = s.transfers ∧ (s.countQuiet).hold = s.hold ∧
    (s.countQuiet).alarms = s.alarms ∧ (s.countQuiet).attention = s.attention ∧ (s.countQuiet).log = s.log ∧
    (s.countQuiet).ports = s.ports := by
  unfold State.countQuiet; repeat' split
  all_goals simp

@[simp] theorem State.stateWork_frame (s : State) (t : Option TriggerId) (b : Bool) :
    (s.stateWork t b).pending = s.pending ∧ (s.stateWork t b).powered = s.powered ∧
    (s.stateWork t b).settings = s.settings ∧ (s.stateWork t b).image = s.image ∧
    (s.stateWork t b).saving = s.saving ∧ (s.stateWork t b).restartDeferred = s.restartDeferred ∧
    (s.stateWork t b).partTime = s.partTime ∧ (s.stateWork t b).metering = s.metering ∧
    (s.stateWork t b).bus = s.bus ∧ (s.stateWork t b).transfers = s.transfers ∧
    (s.stateWork t b).hold = s.hold ∧ (s.stateWork t b).alarms = s.alarms ∧
    (s.stateWork t b).attention = s.attention ∧ (s.stateWork t b).log = s.log ∧
    (s.stateWork t b).ports = s.ports := by
  unfold State.stateWork; repeat' split
  all_goals simp

@[simp] theorem State.reviewActive_frame (s : State) :
    (s.reviewActive).pending = s.pending ∧ (s.reviewActive).powered = s.powered ∧
    (s.reviewActive).settings = s.settings ∧ (s.reviewActive).image = s.image ∧
    (s.reviewActive).saving = s.saving ∧ (s.reviewActive).restartDeferred = s.restartDeferred ∧
    (s.reviewActive).partTime = s.partTime ∧ (s.reviewActive).conns = s.conns ∧
    (s.reviewActive).metering = s.metering ∧ (s.reviewActive).queue = s.queue ∧
    (s.reviewActive).bus = s.bus ∧ (s.reviewActive).transfers = s.transfers ∧
    (s.reviewActive).hold = s.hold ∧ (s.reviewActive).alarms = s.alarms ∧
    (s.reviewActive).attention = s.attention ∧ (s.reviewActive).log = s.log ∧ (s.reviewActive).ports = s.ports := by
  unfold State.reviewActive; repeat' split
  all_goals simp

@[simp] theorem State.engineWindow_frame (s : State) :
    (s.engineWindow).pending = s.pending ∧ (s.engineWindow).powered = s.powered ∧
    (s.engineWindow).settings = s.settings ∧ (s.engineWindow).image = s.image ∧
    (s.engineWindow).saving = s.saving ∧ (s.engineWindow).restartDeferred = s.restartDeferred ∧
    (s.engineWindow).partTime = s.partTime ∧ (s.engineWindow).metering = s.metering ∧
    (s.engineWindow).bus = s.bus ∧ (s.engineWindow).transfers = s.transfers ∧
    (s.engineWindow).hold = s.hold ∧ (s.engineWindow).alarms = s.alarms ∧
    (s.engineWindow).attention = s.attention ∧ (s.engineWindow).log = s.log ∧ (s.engineWindow).ports = s.ports := by
  unfold State.engineWindow; simp

@[simp] theorem State.raisePhaseAlarms_frame (s : State) :
    (s.raisePhaseAlarms).pending = s.pending ∧ (s.raisePhaseAlarms).powered = s.powered ∧
    (s.raisePhaseAlarms).settings = s.settings ∧ (s.raisePhaseAlarms).image = s.image ∧
    (s.raisePhaseAlarms).saving = s.saving ∧ (s.raisePhaseAlarms).restartDeferred = s.restartDeferred ∧
    (s.raisePhaseAlarms).partTime = s.partTime ∧ (s.raisePhaseAlarms).conns = s.conns ∧
    (s.raisePhaseAlarms).metering = s.metering ∧ (s.raisePhaseAlarms).engine = s.engine ∧
    (s.raisePhaseAlarms).queue = s.queue ∧ (s.raisePhaseAlarms).bus = s.bus ∧
    (s.raisePhaseAlarms).transfers = s.transfers ∧ (s.raisePhaseAlarms).hold = s.hold ∧
    (s.raisePhaseAlarms).attention = s.attention ∧ (s.raisePhaseAlarms).log = s.log ∧
    (s.raisePhaseAlarms).ports = s.ports := by
  unfold State.raisePhaseAlarms; simp

@[simp] theorem State.meteringGap_frame (s : State) :
    (s.meteringGap).pending = s.pending ∧ (s.meteringGap).powered = s.powered ∧
    (s.meteringGap).settings = s.settings ∧ (s.meteringGap).image = s.image ∧
    (s.meteringGap).saving = s.saving ∧ (s.meteringGap).restartDeferred = s.restartDeferred ∧
    (s.meteringGap).partTime = s.partTime ∧ (s.meteringGap).conns = s.conns ∧
    (s.meteringGap).engine = s.engine ∧ (s.meteringGap).queue = s.queue ∧ (s.meteringGap).bus = s.bus ∧
    (s.meteringGap).transfers = s.transfers ∧ (s.meteringGap).hold = s.hold ∧
    (s.meteringGap).alarms = s.alarms ∧ (s.meteringGap).attention = s.attention ∧
    (s.meteringGap).log = s.log ∧ (s.meteringGap).ports = s.ports := by
  unfold State.meteringGap; simp

@[simp] theorem State.setPort_frame (s : State) (p : Port) (x : PortState) :
    (s.setPort p x).pending = s.pending ∧ (s.setPort p x).powered = s.powered ∧
    (s.setPort p x).settings = s.settings ∧ (s.setPort p x).image = s.image ∧
    (s.setPort p x).saving = s.saving ∧ (s.setPort p x).restartDeferred = s.restartDeferred ∧
    (s.setPort p x).partTime = s.partTime ∧ (s.setPort p x).conns = s.conns ∧
    (s.setPort p x).metering = s.metering ∧ (s.setPort p x).engine = s.engine ∧
    (s.setPort p x).queue = s.queue ∧ (s.setPort p x).bus = s.bus ∧ (s.setPort p x).transfers = s.transfers ∧
    (s.setPort p x).hold = s.hold ∧ (s.setPort p x).alarms = s.alarms ∧
    (s.setPort p x).attention = s.attention ∧ (s.setPort p x).log = s.log := by
  unfold State.setPort; simp

@[simp] theorem State.respond_frame (s : State) (p : Port) (b : Byte) (e : Status) (d : List Byte) :
    (s.respond p b e d).pending = s.pending ∧ (s.respond p b e d).powered = s.powered ∧
    (s.respond p b e d).settings = s.settings ∧ (s.respond p b e d).image = s.image ∧
    (s.respond p b e d).saving = s.saving ∧ (s.respond p b e d).restartDeferred = s.restartDeferred ∧
    (s.respond p b e d).partTime = s.partTime ∧ (s.respond p b e d).conns = s.conns ∧
    (s.respond p b e d).metering = s.metering ∧ (s.respond p b e d).engine = s.engine ∧
    (s.respond p b e d).queue = s.queue ∧ (s.respond p b e d).bus = s.bus ∧
    (s.respond p b e d).transfers = s.transfers ∧ (s.respond p b e d).hold = s.hold ∧
    (s.respond p b e d).alarms = s.alarms ∧ (s.respond p b e d).attention = s.attention ∧
    (s.respond p b e d).log = s.log := by
  unfold State.respond; simp

@[simp] theorem State.rejectFrame_frame (s : State) (p : Port) :
    (s.rejectFrame p).pending = s.pending ∧ (s.rejectFrame p).powered = s.powered ∧
    (s.rejectFrame p).settings = s.settings ∧ (s.rejectFrame p).image = s.image ∧
    (s.rejectFrame p).saving = s.saving ∧ (s.rejectFrame p).restartDeferred = s.restartDeferred ∧
    (s.rejectFrame p).partTime = s.partTime ∧ (s.rejectFrame p).conns = s.conns ∧
    (s.rejectFrame p).metering = s.metering ∧ (s.rejectFrame p).engine = s.engine ∧
    (s.rejectFrame p).queue = s.queue ∧ (s.rejectFrame p).bus = s.bus ∧
    (s.rejectFrame p).transfers = s.transfers ∧ (s.rejectFrame p).hold = s.hold ∧
    (s.rejectFrame p).alarms = s.alarms ∧ (s.rejectFrame p).attention = s.attention ∧
    (s.rejectFrame p).log = s.log := by
  unfold State.rejectFrame; simp

@[simp] theorem State.clearToday_frame (s : State) :
    (s.clearToday).pending = s.pending ∧ (s.clearToday).powered = s.powered ∧
    (s.clearToday).settings = s.settings ∧ (s.clearToday).image = s.image ∧
    (s.clearToday).saving = s.saving ∧ (s.clearToday).restartDeferred = s.restartDeferred ∧
    (s.clearToday).partTime = s.partTime ∧ (s.clearToday).metering = s.metering ∧
    (s.clearToday).engine = s.engine ∧ (s.clearToday).queue = s.queue ∧ (s.clearToday).bus = s.bus ∧
    (s.clearToday).transfers = s.transfers ∧ (s.clearToday).hold = s.hold ∧
    (s.clearToday).alarms = s.alarms ∧ (s.clearToday).attention = s.attention ∧ (s.clearToday).log = s.log ∧
    (s.clearToday).ports = s.ports := by
  unfold State.clearToday; simp

@[simp] theorem State.setPartTime_frame (s : State) (t : Word) :
    (s.setPartTime t).pending = s.pending ∧ (s.setPartTime t).powered = s.powered ∧
    (s.setPartTime t).settings = s.settings ∧ (s.setPartTime t).image = s.image ∧
    (s.setPartTime t).saving = s.saving ∧ (s.setPartTime t).restartDeferred = s.restartDeferred ∧
    (s.setPartTime t).metering = s.metering ∧ (s.setPartTime t).engine = s.engine ∧
    (s.setPartTime t).queue = s.queue ∧ (s.setPartTime t).bus = s.bus ∧
    (s.setPartTime t).transfers = s.transfers ∧ (s.setPartTime t).hold = s.hold ∧
    (s.setPartTime t).alarms = s.alarms ∧ (s.setPartTime t).attention = s.attention ∧
    (s.setPartTime t).log = s.log ∧ (s.setPartTime t).ports = s.ports := by
  unfold State.setPartTime; repeat' split
  all_goals simp

@[simp] theorem State.holdBegins_frame (s : State) :
    (s.holdBegins).pending = s.pending ∧ (s.holdBegins).powered = s.powered ∧
    (s.holdBegins).settings = s.settings ∧ (s.holdBegins).image = s.image ∧
    (s.holdBegins).saving = s.saving ∧ (s.holdBegins).restartDeferred = s.restartDeferred ∧
    (s.holdBegins).partTime = s.partTime ∧ (s.holdBegins).metering = s.metering ∧
    (s.holdBegins).hold = s.hold ∧ (s.holdBegins).ports = s.ports := by
  unfold State.holdBegins; simp

@[simp] theorem State.holdEnds_frame (s : State) :
    (s.holdEnds).pending = s.pending ∧ (s.holdEnds).powered = s.powered ∧
    (s.holdEnds).settings = s.settings ∧ (s.holdEnds).image = s.image ∧ (s.holdEnds).saving = s.saving ∧
    (s.holdEnds).restartDeferred = s.restartDeferred ∧ (s.holdEnds).partTime = s.partTime ∧
    (s.holdEnds).metering = s.metering ∧ (s.holdEnds).hold = s.hold ∧ (s.holdEnds).log = s.log ∧
    (s.holdEnds).ports = s.ports := by
  unfold State.holdEnds; simp

@[simp] theorem State.setPin_frame (s : State) (c : ConnId) (p : Port) (b : Bool) :
    (s.setPin c p b).pending = s.pending ∧ (s.setPin c p b).powered = s.powered ∧
    (s.setPin c p b).settings = s.settings ∧ (s.setPin c p b).image = s.image ∧
    (s.setPin c p b).saving = s.saving ∧ (s.setPin c p b).restartDeferred = s.restartDeferred ∧
    (s.setPin c p b).partTime = s.partTime ∧ (s.setPin c p b).metering = s.metering ∧
    (s.setPin c p b).engine = s.engine ∧ (s.setPin c p b).queue = s.queue ∧ (s.setPin c p b).bus = s.bus ∧
    (s.setPin c p b).transfers = s.transfers ∧ (s.setPin c p b).hold = s.hold ∧
    (s.setPin c p b).alarms = s.alarms ∧ (s.setPin c p b).attention = s.attention ∧
    (s.setPin c p b).log = s.log ∧ (s.setPin c p b).ports = s.ports := by
  unfold State.setPin; simp

@[simp] theorem State.replaceOrder_frame (s : State) (o : Order) :
    (s.replaceOrder o).pending = s.pending ∧ (s.replaceOrder o).powered = s.powered ∧
    (s.replaceOrder o).settings = s.settings ∧ (s.replaceOrder o).image = s.image ∧
    (s.replaceOrder o).saving = s.saving ∧ (s.replaceOrder o).restartDeferred = s.restartDeferred ∧
    (s.replaceOrder o).partTime = s.partTime ∧ (s.replaceOrder o).conns = s.conns ∧
    (s.replaceOrder o).metering = s.metering ∧ (s.replaceOrder o).bus = s.bus ∧
    (s.replaceOrder o).transfers = s.transfers ∧ (s.replaceOrder o).hold = s.hold ∧
    (s.replaceOrder o).alarms = s.alarms ∧ (s.replaceOrder o).attention = s.attention ∧
    (s.replaceOrder o).ports = s.ports := by
  unfold State.replaceOrder; simp

@[simp] theorem State.setPriority_frame (s : State) (c : ConnId) (n : Nat) :
    (s.setPriority c n).pending = s.pending ∧ (s.setPriority c n).powered = s.powered ∧
    (s.setPriority c n).settings = s.settings ∧ (s.setPriority c n).image = s.image ∧
    (s.setPriority c n).saving = s.saving ∧ (s.setPriority c n).restartDeferred = s.restartDeferred ∧
    (s.setPriority c n).partTime = s.partTime ∧ (s.setPriority c n).conns = s.conns ∧
    (s.setPriority c n).metering = s.metering ∧ (s.setPriority c n).engine = s.engine ∧
    (s.setPriority c n).bus = s.bus ∧ (s.setPriority c n).transfers = s.transfers ∧
    (s.setPriority c n).hold = s.hold ∧ (s.setPriority c n).alarms = s.alarms ∧
    (s.setPriority c n).attention = s.attention ∧ (s.setPriority c n).log = s.log ∧
    (s.setPriority c n).ports = s.ports := by
  unfold State.setPriority; simp

@[simp] theorem State.settingWritten_frame (s : State) (i : SettingId) :
    (s.settingWritten i).pending = s.pending ∧ (s.settingWritten i).powered = s.powered ∧
    (s.settingWritten i).settings = s.settings ∧ (s.settingWritten i).image = s.image ∧
    (s.settingWritten i).saving = s.saving ∧ (s.settingWritten i).restartDeferred = s.restartDeferred ∧
    (s.settingWritten i).partTime = s.partTime ∧ (s.settingWritten i).metering = s.metering ∧
    (s.settingWritten i).hold = s.hold ∧ (s.settingWritten i).alarms = s.alarms ∧
    (s.settingWritten i).log = s.log ∧ (s.settingWritten i).ports = s.ports := by
  unfold State.settingWritten; repeat' split
  all_goals simp

@[simp] theorem State.writeConfig_frame (s : State) (c : ConnId) (g : ConnConfig) :
    (s.writeConfig c g).pending = s.pending ∧ (s.writeConfig c g).powered = s.powered ∧
    (s.writeConfig c g).image = s.image ∧ (s.writeConfig c g).saving = s.saving ∧
    (s.writeConfig c g).restartDeferred = s.restartDeferred ∧ (s.writeConfig c g).partTime = s.partTime ∧
    (s.writeConfig c g).metering = s.metering ∧ (s.writeConfig c g).engine = s.engine ∧
    (s.writeConfig c g).queue = s.queue ∧ (s.writeConfig c g).bus = s.bus ∧
    (s.writeConfig c g).transfers = s.transfers ∧ (s.writeConfig c g).hold = s.hold ∧
    (s.writeConfig c g).alarms = s.alarms ∧ (s.writeConfig c g).attention = s.attention ∧
    (s.writeConfig c g).log = s.log ∧ (s.writeConfig c g).ports = s.ports := by
  unfold State.writeConfig; dsimp only; split <;> simp

@[simp] theorem State.writeTriggerEntry_frame (s : State) (t : TriggerId) (g : TriggerConfig) :
    (s.writeTriggerEntry t g).pending = s.pending ∧ (s.writeTriggerEntry t g).powered = s.powered ∧
    (s.writeTriggerEntry t g).image = s.image ∧ (s.writeTriggerEntry t g).saving = s.saving ∧
    (s.writeTriggerEntry t g).restartDeferred = s.restartDeferred ∧
    (s.writeTriggerEntry t g).partTime = s.partTime ∧ (s.writeTriggerEntry t g).conns = s.conns ∧
    (s.writeTriggerEntry t g).metering = s.metering ∧ (s.writeTriggerEntry t g).queue = s.queue ∧
    (s.writeTriggerEntry t g).bus = s.bus ∧ (s.writeTriggerEntry t g).transfers = s.transfers ∧
    (s.writeTriggerEntry t g).hold = s.hold ∧ (s.writeTriggerEntry t g).alarms = s.alarms ∧
    (s.writeTriggerEntry t g).attention = s.attention ∧ (s.writeTriggerEntry t g).log = s.log ∧
    (s.writeTriggerEntry t g).ports = s.ports := by
  unfold State.writeTriggerEntry; simp

@[simp] theorem State.takeContent_frame (s : State) (c : ConnId) (r : Reply) :
    (s.takeContent c r).pending = s.pending ∧ (s.takeContent c r).powered = s.powered ∧
    (s.takeContent c r).settings = s.settings ∧ (s.takeContent c r).image = s.image ∧
    (s.takeContent c r).saving = s.saving ∧ (s.takeContent c r).restartDeferred = s.restartDeferred ∧
    (s.takeContent c r).partTime = s.partTime ∧ (s.takeContent c r).metering = s.metering ∧
    (s.takeContent c r).queue = s.queue ∧ (s.takeContent c r).transfers = s.transfers ∧
    (s.takeContent c r).hold = s.hold ∧ (s.takeContent c r).alarms = s.alarms ∧
    (s.takeContent c r).attention = s.attention ∧ (s.takeContent c r).ports = s.ports := by
  unfold State.takeContent; repeat' split
  all_goals simp

@[simp] theorem State.ageOrders_frame (s : State) :
    (s.ageOrders).pending = s.pending ∧ (s.ageOrders).powered = s.powered ∧
    (s.ageOrders).settings = s.settings ∧ (s.ageOrders).image = s.image ∧ (s.ageOrders).saving = s.saving ∧
    (s.ageOrders).restartDeferred = s.restartDeferred ∧ (s.ageOrders).partTime = s.partTime ∧
    (s.ageOrders).metering = s.metering ∧ (s.ageOrders).bus = s.bus ∧ (s.ageOrders).transfers = s.transfers ∧
    (s.ageOrders).hold = s.hold ∧ (s.ageOrders).alarms = s.alarms ∧ (s.ageOrders).attention = s.attention ∧
    (s.ageOrders).ports = s.ports := by
  unfold State.ageOrders
  dsimp only
  refine ⟨?_, ?_, ?_, ?_, ?_, ?_, ?_, ?_, ?_, ?_, ?_, ?_, ?_, ?_⟩
  all_goals
    first
    | rw [foldl_keeps _ State.pending (fun s o => by simp)]; rfl
    | rw [foldl_keeps _ State.powered (fun s o => by simp)]; rfl
    | rw [foldl_keeps _ State.settings (fun s o => by simp)]; rfl
    | rw [foldl_keeps _ State.image (fun s o => by simp)]; rfl
    | rw [foldl_keeps _ State.saving (fun s o => by simp)]; rfl
    | rw [foldl_keeps _ State.restartDeferred (fun s o => by simp)]; rfl
    | rw [foldl_keeps _ State.partTime (fun s o => by simp)]; rfl
    | rw [foldl_keeps _ State.metering (fun s o => by simp)]; rfl
    | rw [foldl_keeps _ State.bus (fun s o => by simp)]; rfl
    | rw [foldl_keeps _ State.transfers (fun s o => by simp)]; rfl
    | rw [foldl_keeps _ State.hold (fun s o => by simp)]; rfl
    | rw [foldl_keeps _ State.alarms (fun s o => by simp)]; rfl
    | rw [foldl_keeps _ State.attention (fun s o => by simp)]; rfl
    | rw [foldl_keeps _ State.ports (fun s o => by simp)]; rfl


@[simp] theorem State.surveySecond_frame (s : State) :
    (s.surveySecond).pending = s.pending ∧ (s.surveySecond).powered = s.powered ∧
    (s.surveySecond).settings = s.settings ∧ (s.surveySecond).image = s.image ∧
    (s.surveySecond).saving = s.saving ∧ (s.surveySecond).restartDeferred = s.restartDeferred ∧
    (s.surveySecond).partTime = s.partTime ∧ (s.surveySecond).conns = s.conns ∧
    (s.surveySecond).metering = s.metering ∧ (s.surveySecond).engine = s.engine ∧
    (s.surveySecond).queue = s.queue ∧ (s.surveySecond).transfers = s.transfers ∧
    (s.surveySecond).hold = s.hold ∧ (s.surveySecond).alarms = s.alarms ∧
    (s.surveySecond).attention = s.attention ∧ (s.surveySecond).log = s.log ∧ (s.surveySecond).ports = s.ports := by
  unfold State.surveySecond; repeat' split
  all_goals simp

@[simp] theorem State.confirmTick_frame (s : State) (k : CtxId) (x : Context) :
    (s.confirmTick k x).pending = s.pending ∧ (s.confirmTick k x).powered = s.powered ∧
    (s.confirmTick k x).settings = s.settings ∧ (s.confirmTick k x).image = s.image ∧
    (s.confirmTick k x).saving = s.saving ∧ (s.confirmTick k x).restartDeferred = s.restartDeferred ∧
    (s.confirmTick k x).partTime = s.partTime ∧ (s.confirmTick k x).conns = s.conns ∧
    (s.confirmTick k x).metering = s.metering ∧ (s.confirmTick k x).engine = s.engine ∧
    (s.confirmTick k x).queue = s.queue ∧ (s.confirmTick k x).hold = s.hold ∧
    (s.confirmTick k x).alarms = s.alarms ∧ (s.confirmTick k x).attention = s.attention ∧
    (s.confirmTick k x).log = s.log ∧ (s.confirmTick k x).ports = s.ports := by
  unfold State.confirmTick; dsimp only; simp

end Sys2Proof.Machine
end

