-- ==== Sys2Proof/Laws/PerInstr.lean ====
section
/-!
SUPPORT. The statements made per command: the table gives no row any bits, so no word spells any command.
-/

namespace Sys2Proof.Laws

/-- No table word spells the command, whatever its operands (spec/opcode_table.json gives no row any bits). -/
def EncodedByNoWord.Statement (i : Instr) : Prop := ∀ nbits w : Nat, decodeTableWord nbits w ≠ some i

theorem EncodedByNoWord.powerOn :
    EncodedByNoWord.Statement Instr.powerOn := by
  intro _ _ h; cases h

theorem EncodedByNoWord.oneSecondEvent :
    EncodedByNoWord.Statement (Instr.oneSecondEvent) := by
  intro _ _ h; cases h

theorem EncodedByNoWord.frameGapTimeout (port : Port) (received : List Byte) :
    EncodedByNoWord.Statement (Instr.frameGapTimeout port received) := by
  intro _ _ h; cases h

theorem EncodedByNoWord.rejectedFrame (port : Port) (received : List Byte) :
    EncodedByNoWord.Statement (Instr.rejectedFrame port received) := by
  intro _ _ h; cases h

theorem EncodedByNoWord.frameBuffered (port : Port) (payload : List Byte) :
    EncodedByNoWord.Statement (Instr.frameBuffered port payload) := by
  intro _ _ h; cases h

theorem EncodedByNoWord.responseTransmitted (port : Port) :
    EncodedByNoWord.Statement (Instr.responseTransmitted port) := by
  intro _ _ h; cases h

theorem EncodedByNoWord.identify (port : Port) (params : List Byte) :
    EncodedByNoWord.Statement (Instr.identify port params) := by
  intro _ _ h; cases h

theorem EncodedByNoWord.readStatus (port : Port) (params : List Byte) :
    EncodedByNoWord.Statement (Instr.readStatus port params) := by
  intro _ _ h; cases h

theorem EncodedByNoWord.readPhases (port : Port) (params : List Byte) :
    EncodedByNoWord.Statement (Instr.readPhases port params) := by
  intro _ _ h; cases h

theorem EncodedByNoWord.readConnection (port : Port) (params : List Byte) :
    EncodedByNoWord.Statement (Instr.readConnection port params) := by
  intro _ _ h; cases h

theorem EncodedByNoWord.readTable (port : Port) (params : List Byte) :
    EncodedByNoWord.Statement (Instr.readTable port params) := by
  intro _ _ h; cases h

theorem EncodedByNoWord.readQueue (port : Port) (params : List Byte) :
    EncodedByNoWord.Statement (Instr.readQueue port params) := by
  intro _ _ h; cases h

theorem EncodedByNoWord.readLog (port : Port) (params : List Byte) :
    EncodedByNoWord.Statement (Instr.readLog port params) := by
  intro _ _ h; cases h

theorem EncodedByNoWord.readSetting (port : Port) (params : List Byte) :
    EncodedByNoWord.Statement (Instr.readSetting port params) := by
  intro _ _ h; cases h

theorem EncodedByNoWord.move (port : Port) (params : List Byte) :
    EncodedByNoWord.Statement (Instr.move port params) := by
  intro _ _ h; cases h

theorem EncodedByNoWord.cancel (port : Port) (params : List Byte) :
    EncodedByNoWord.Statement (Instr.cancel port params) := by
  intro _ _ h; cases h

theorem EncodedByNoWord.reprioritize (port : Port) (params : List Byte) :
    EncodedByNoWord.Statement (Instr.reprioritize port params) := by
  intro _ _ h; cases h

theorem EncodedByNoWord.pin (port : Port) (params : List Byte) :
    EncodedByNoWord.Statement (Instr.pin port params) := by
  intro _ _ h; cases h

theorem EncodedByNoWord.unpin (port : Port) (params : List Byte) :
    EncodedByNoWord.Statement (Instr.unpin port params) := by
  intro _ _ h; cases h

theorem EncodedByNoWord.unpinAll (port : Port) (params : List Byte) :
    EncodedByNoWord.Statement (Instr.unpinAll port params) := by
  intro _ _ h; cases h

theorem EncodedByNoWord.hold (port : Port) (params : List Byte) :
    EncodedByNoWord.Statement (Instr.hold port params) := by
  intro _ _ h; cases h

theorem EncodedByNoWord.release (port : Port) (params : List Byte) :
    EncodedByNoWord.Statement (Instr.release port params) := by
  intro _ _ h; cases h

theorem EncodedByNoWord.pauseBalancer (port : Port) (params : List Byte) :
    EncodedByNoWord.Statement (Instr.pauseBalancer port params) := by
  intro _ _ h; cases h

theorem EncodedByNoWord.resumeBalancer (port : Port) (params : List Byte) :
    EncodedByNoWord.Statement (Instr.resumeBalancer port params) := by
  intro _ _ h; cases h

theorem EncodedByNoWord.clearFault (port : Port) (params : List Byte) :
    EncodedByNoWord.Statement (Instr.clearFault port params) := by
  intro _ _ h; cases h

theorem EncodedByNoWord.survey (port : Port) (params : List Byte) :
    EncodedByNoWord.Statement (Instr.survey port params) := by
  intro _ _ h; cases h

theorem EncodedByNoWord.clearAlarms (port : Port) (params : List Byte) :
    EncodedByNoWord.Statement (Instr.clearAlarms port params) := by
  intro _ _ h; cases h

theorem EncodedByNoWord.setAlarmMask (port : Port) (params : List Byte) :
    EncodedByNoWord.Statement (Instr.setAlarmMask port params) := by
  intro _ _ h; cases h

theorem EncodedByNoWord.writeSetting (port : Port) (params : List Byte) :
    EncodedByNoWord.Statement (Instr.writeSetting port params) := by
  intro _ _ h; cases h

theorem EncodedByNoWord.writeConnection (port : Port) (params : List Byte) :
    EncodedByNoWord.Statement (Instr.writeConnection port params) := by
  intro _ _ h; cases h

theorem EncodedByNoWord.writeTrigger (port : Port) (params : List Byte) :
    EncodedByNoWord.Statement (Instr.writeTrigger port params) := by
  intro _ _ h; cases h

theorem EncodedByNoWord.saveSettings (port : Port) (params : List Byte) :
    EncodedByNoWord.Statement (Instr.saveSettings port params) := by
  intro _ _ h; cases h

theorem EncodedByNoWord.saveEnd :
    EncodedByNoWord.Statement (Instr.saveEnd) := by
  intro _ _ h; cases h

theorem EncodedByNoWord.restart (port : Port) (params : List Byte) :
    EncodedByNoWord.Statement (Instr.restart port params) := by
  intro _ _ h; cases h

theorem EncodedByNoWord.restartTakesEffect :
    EncodedByNoWord.Statement (Instr.restartTakesEffect) := by
  intro _ _ h; cases h

theorem EncodedByNoWord.setTime (port : Port) (params : List Byte) :
    EncodedByNoWord.Statement (Instr.setTime port params) := by
  intro _ _ h; cases h

theorem EncodedByNoWord.acceptedWindow (record : WindowRecord) :
    EncodedByNoWord.Statement (Instr.acceptedWindow record) := by
  intro _ _ h; cases h

theorem EncodedByNoWord.quietCountExpiry :
    EncodedByNoWord.Statement (Instr.quietCountExpiry) := by
  intro _ _ h; cases h

theorem EncodedByNoWord.meteringRecordDropped (received : List Byte) :
    EncodedByNoWord.Statement (Instr.meteringRecordDropped received) := by
  intro _ _ h; cases h

theorem EncodedByNoWord.meteringByteGap (received : List Byte) :
    EncodedByNoWord.Statement (Instr.meteringByteGap received) := by
  intro _ _ h; cases h

theorem EncodedByNoWord.stalenessExpiry :
    EncodedByNoWord.Statement (Instr.stalenessExpiry) := by
  intro _ _ h; cases h

theorem EncodedByNoWord.pollReply (address tag : Byte) (serial : Word) (report : PollReport) :
    EncodedByNoWord.Statement (Instr.pollReply address tag serial report) := by
  intro _ _ h; cases h

theorem EncodedByNoWord.armedReply (address tag : Byte) (serial : Word) :
    EncodedByNoWord.Statement (Instr.armedReply address tag serial) := by
  intro _ _ h; cases h

theorem EncodedByNoWord.armRefused (address tag : Byte) (serial : Word) (reason : ArmRefusal) :
    EncodedByNoWord.Statement (Instr.armRefused address tag serial reason) := by
  intro _ _ h; cases h

theorem EncodedByNoWord.firingReply (address tag : Byte) (serial : Word) :
    EncodedByNoWord.Statement (Instr.firingReply address tag serial) := by
  intro _ _ h; cases h

theorem EncodedByNoWord.notArmedReply (address tag : Byte) (serial : Word) :
    EncodedByNoWord.Statement (Instr.notArmedReply address tag serial) := by
  intro _ _ h; cases h

theorem EncodedByNoWord.idleReply (address tag : Byte) (serial : Word) :
    EncodedByNoWord.Statement (Instr.idleReply address tag serial) := by
  intro _ _ h; cases h

theorem EncodedByNoWord.busFrameDiscarded (frame : List Byte) :
    EncodedByNoWord.Statement (Instr.busFrameDiscarded frame) := by
  intro _ _ h; cases h

theorem EncodedByNoWord.lapse :
    EncodedByNoWord.Statement (Instr.lapse) := by
  intro _ _ h; cases h

theorem EncodedByNoWord.routineSpacingExpiry :
    EncodedByNoWord.Statement (Instr.routineSpacingExpiry) := by
  intro _ _ h; cases h

theorem EncodedByNoWord.surveyTimerExpiry :
    EncodedByNoWord.Statement (Instr.surveyTimerExpiry) := by
  intro _ _ h; cases h

theorem EncodedByNoWord.arrivalHoldExpiry (conn : ConnId) :
    EncodedByNoWord.Statement (Instr.arrivalHoldExpiry conn) := by
  intro _ _ h; cases h

theorem EncodedByNoWord.settleExpiry (conn : ConnId) :
    EncodedByNoWord.Statement (Instr.settleExpiry conn) := by
  intro _ _ h; cases h

theorem EncodedByNoWord.expired (conn : ConnId) :
    EncodedByNoWord.Statement (Instr.expired conn) := by
  intro _ _ h; cases h

theorem EncodedByNoWord.armDeadlineExpiry (ctx : CtxId) :
    EncodedByNoWord.Statement (Instr.armDeadlineExpiry ctx) := by
  intro _ _ h; cases h

theorem EncodedByNoWord.confirmTimerExpiry (ctx : CtxId) :
    EncodedByNoWord.Statement (Instr.confirmTimerExpiry ctx) := by
  intro _ _ h; cases h

theorem EncodedByNoWord.confirmDeadlineExpiry (ctx : CtxId) :
    EncodedByNoWord.Statement (Instr.confirmDeadlineExpiry ctx) := by
  intro _ _ h; cases h

theorem EncodedByNoWord.unknownCommand (port : Port) (code : Byte) (params : List Byte) :
    EncodedByNoWord.Statement (Instr.unknownCommand port code params) := by
  intro _ _ h; cases h

theorem EncodedByNoWord.supplyLost :
    EncodedByNoWord.Statement (Instr.supplyLost) := by
  intro _ _ h; cases h

end Sys2Proof.Laws
end

