-- ==== Sys2Proof/Laws/Requests.lean ====
section
/-!
SUPPORT. What a request comes to, once for each command: a ready port takes it, its checks 2 and 3 pass, and the
command's own meaning gives the state, the status and the data of the response. A proof about a request rewrites with
these equations and does not unfold `serve` or `exec`.
-/

namespace Sys2Proof.Machine

/-! ### Taking a request -/

theorem Command.ofCode_code (c : Command) : Command.ofCode c.code = some c := by cases c <;> decide

/-- A good frame on a port that transmits no response is taken at once (R168). -/
theorem State.commandFrame_ready (s : State) (p : Port) (c : Command) (params : List Byte)
    (h : (s.ports.get p).response = none) :
    s.commandFrame p c params = (s.setPort p { s.port p with rx := none }).takeRequest p c.code params := by
  simp [State.commandFrame, State.goodFrame, State.port, State.setPort, h]

/-- A permitted request of the right length is served and answered (R169). -/
theorem State.takeRequest_served (s : State) (c : Command) (p : Port) (params : List Byte)
    (hp : c.permitted p = true) (hl : params.length = c.paramBytes) :
    s.takeRequest p c.code params =
      ((serve c p params s).state.respond p c.code (serve c p params s).status (serve c p params s).data).afterResponse c
        (serve c p params s).status := by
  simp [State.takeRequest, Command.ofCode_code, hp, hl]

/-- The same for every command but RESTART, after whose response nothing follows. -/
theorem State.takeRequest_answered (s : State) (c : Command) (p : Port) (params : List Byte)
    (hp : c.permitted p = true) (hl : params.length = c.paramBytes) (hc : c ≠ .restart) :
    s.takeRequest p c.code params =
      (serve c p params s).state.respond p c.code (serve c p params s).status (serve c p params s).data := by
  simp [State.takeRequest, Command.ofCode_code, hp, hl, State.afterResponse, hc]

/-! ### Each command's meaning -/

theorem serve_identify (p : Port) (s : State) :
    serve .identify p [] s = serveIdentify p s := rfl

theorem serve_readStatus (p : Port) (s : State) :
    serve .readStatus p [] s = serveReadStatus p s := rfl

theorem serve_readPhases (p : Port) (s : State) :
    serve .readPhases p [] s = serveReadPhases s := rfl

theorem serve_readConnection (p : Port) (n : Byte) (s : State) :
    serve .readConnection p [n] s = serveReadConnection n s := rfl

theorem serve_readTable (p : Port) (n : Byte) (s : State) :
    serve .readTable p [n] s = serveReadTable n s := rfl

theorem serve_readQueue (p : Port) (n : Byte) (s : State) :
    serve .readQueue p [n] s = serveReadQueue n s := rfl

theorem serve_readLog (p : Port) (a b c d count : Byte) (s : State) :
    serve .readLog p [a, b, c, d, count] s = serveReadLog (readWord a b c d) count s := rfl

theorem serve_readSetting (p : Port) (item : Byte) (s : State) :
    serve .readSetting p [item] s = serveReadSetting item s := rfl

theorem serve_move (p : Port) (n target priority high low : Byte) (s : State) :
    serve .move p [n, target, priority, high, low] s = serveMove p n target priority (readHalf high low) s := rfl

theorem serve_cancel (p : Port) (n : Byte) (s : State) :
    serve .cancel p [n] s = serveCancel n s := rfl

theorem serve_reprioritize (p : Port) (n priority : Byte) (s : State) :
    serve .reprioritize p [n, priority] s = serveReprioritize n priority s := rfl

theorem serve_pin (p : Port) (n : Byte) (s : State) :
    serve .pin p [n] s = servePin p n s := rfl

theorem serve_unpin (p : Port) (n : Byte) (s : State) :
    serve .unpin p [n] s = serveUnpin p n s := rfl

theorem serve_unpinAll (p : Port) (s : State) :
    serve .unpinAll p [] s = serveUnpinAll p s := rfl

theorem serve_hold (p : Port) (s : State) :
    serve .hold p [] s = serveHold p s := rfl

theorem serve_release (p : Port) (s : State) :
    serve .release p [] s = serveRelease p s := rfl

theorem serve_pauseBalancer (p : Port) (s : State) :
    serve .pauseBalancer p [] s = servePause s := rfl

theorem serve_resumeBalancer (p : Port) (s : State) :
    serve .resumeBalancer p [] s = serveResume s := rfl

theorem serve_clearFault (p : Port) (n : Byte) (s : State) :
    serve .clearFault p [n] s = serveClearFault n s := rfl

theorem serve_survey (p : Port) (s : State) :
    serve .survey p [] s = serveSurvey s := rfl

theorem serve_clearAlarms (p : Port) (named : Byte) (s : State) :
    serve .clearAlarms p [named] s = serveClearAlarms p named s := rfl

theorem serve_setAlarmMask (p : Port) (mask : Byte) (s : State) :
    serve .setAlarmMask p [mask] s = serveSetAlarmMask p mask s := rfl

theorem serve_writeSetting (p : Port) (n a b c d : Byte) (s : State) :
    serve .writeSetting p [n, a, b, c, d] s = serveWriteSetting n (readWord a b c d) s := rfl

theorem serve_writeConnection (p : Port) (n kind allowed a b c d : Byte) (s : State) :
    serve .writeConnection p [n, kind, allowed, a, b, c, d] s = serveWriteConnection n kind allowed (readWord a b c d) s := rfl

theorem serve_writeTrigger (p : Port) (n enabled phases quantity comparison a b c d persistence : Byte) (s : State) :
    serve .writeTrigger p [n, enabled, phases, quantity, comparison, a, b, c, d, persistence] s = serveWriteTrigger n enabled phases quantity comparison (readWord a b c d) persistence s := rfl

theorem serve_saveSettings (p : Port) (s : State) :
    serve .saveSettings p [] s = serveSaveSettings s := rfl

theorem serve_restart (p : Port) (s : State) :
    serve .restart p [] s = serveRestart s := rfl

theorem serve_setTime (p : Port) (a b c d : Byte) (s : State) :
    serve .setTime p [a, b, c, d] s = serveSetTime (readWord a b c d) s := rfl

/-! ### Each request row on a ready port of a part with supply -/

theorem exec_identify_ready (p : Port) (params : List Byte) (s : State) (hs : s.powered = true)
    (h : (s.ports.get p).response = none) (hp : Command.identify.permitted p = true)
    (hl : params.length = Command.identify.paramBytes) :
    exec (.identify p params) s =
      (let r := serve .identify p params (s.setPort p { s.port p with rx := none })
       .next (r.state.respond p Command.identify.code r.status r.data)) := by
  show State.whilePowered s _ = _
  rw [State.whilePowered, if_pos hs, State.commandFrame_ready _ _ _ _ h,
    State.takeRequest_answered _ _ _ _ hp hl (by decide)]

theorem exec_readStatus_ready (p : Port) (params : List Byte) (s : State) (hs : s.powered = true)
    (h : (s.ports.get p).response = none) (hp : Command.readStatus.permitted p = true)
    (hl : params.length = Command.readStatus.paramBytes) :
    exec (.readStatus p params) s =
      (let r := serve .readStatus p params (s.setPort p { s.port p with rx := none })
       .next (r.state.respond p Command.readStatus.code r.status r.data)) := by
  show State.whilePowered s _ = _
  rw [State.whilePowered, if_pos hs, State.commandFrame_ready _ _ _ _ h,
    State.takeRequest_answered _ _ _ _ hp hl (by decide)]

theorem exec_readPhases_ready (p : Port) (params : List Byte) (s : State) (hs : s.powered = true)
    (h : (s.ports.get p).response = none) (hp : Command.readPhases.permitted p = true)
    (hl : params.length = Command.readPhases.paramBytes) :
    exec (.readPhases p params) s =
      (let r := serve .readPhases p params (s.setPort p { s.port p with rx := none })
       .next (r.state.respond p Command.readPhases.code r.status r.data)) := by
  show State.whilePowered s _ = _
  rw [State.whilePowered, if_pos hs, State.commandFrame_ready _ _ _ _ h,
    State.takeRequest_answered _ _ _ _ hp hl (by decide)]

theorem exec_readConnection_ready (p : Port) (params : List Byte) (s : State) (hs : s.powered = true)
    (h : (s.ports.get p).response = none) (hp : Command.readConnection.permitted p = true)
    (hl : params.length = Command.readConnection.paramBytes) :
    exec (.readConnection p params) s =
      (let r := serve .readConnection p params (s.setPort p { s.port p with rx := none })
       .next (r.state.respond p Command.readConnection.code r.status r.data)) := by
  show State.whilePowered s _ = _
  rw [State.whilePowered, if_pos hs, State.commandFrame_ready _ _ _ _ h,
    State.takeRequest_answered _ _ _ _ hp hl (by decide)]

theorem exec_readTable_ready (p : Port) (params : List Byte) (s : State) (hs : s.powered = true)
    (h : (s.ports.get p).response = none) (hp : Command.readTable.permitted p = true)
    (hl : params.length = Command.readTable.paramBytes) :
    exec (.readTable p params) s =
      (let r := serve .readTable p params (s.setPort p { s.port p with rx := none })
       .next (r.state.respond p Command.readTable.code r.status r.data)) := by
  show State.whilePowered s _ = _
  rw [State.whilePowered, if_pos hs, State.commandFrame_ready _ _ _ _ h,
    State.takeRequest_answered _ _ _ _ hp hl (by decide)]

theorem exec_readQueue_ready (p : Port) (params : List Byte) (s : State) (hs : s.powered = true)
    (h : (s.ports.get p).response = none) (hp : Command.readQueue.permitted p = true)
    (hl : params.length = Command.readQueue.paramBytes) :
    exec (.readQueue p params) s =
      (let r := serve .readQueue p params (s.setPort p { s.port p with rx := none })
       .next (r.state.respond p Command.readQueue.code r.status r.data)) := by
  show State.whilePowered s _ = _
  rw [State.whilePowered, if_pos hs, State.commandFrame_ready _ _ _ _ h,
    State.takeRequest_answered _ _ _ _ hp hl (by decide)]

theorem exec_readLog_ready (p : Port) (params : List Byte) (s : State) (hs : s.powered = true)
    (h : (s.ports.get p).response = none) (hp : Command.readLog.permitted p = true)
    (hl : params.length = Command.readLog.paramBytes) :
    exec (.readLog p params) s =
      (let r := serve .readLog p params (s.setPort p { s.port p with rx := none })
       .next (r.state.respond p Command.readLog.code r.status r.data)) := by
  show State.whilePowered s _ = _
  rw [State.whilePowered, if_pos hs, State.commandFrame_ready _ _ _ _ h,
    State.takeRequest_answered _ _ _ _ hp hl (by decide)]

theorem exec_readSetting_ready (p : Port) (params : List Byte) (s : State) (hs : s.powered = true)
    (h : (s.ports.get p).response = none) (hp : Command.readSetting.permitted p = true)
    (hl : params.length = Command.readSetting.paramBytes) :
    exec (.readSetting p params) s =
      (let r := serve .readSetting p params (s.setPort p { s.port p with rx := none })
       .next (r.state.respond p Command.readSetting.code r.status r.data)) := by
  show State.whilePowered s _ = _
  rw [State.whilePowered, if_pos hs, State.commandFrame_ready _ _ _ _ h,
    State.takeRequest_answered _ _ _ _ hp hl (by decide)]

theorem exec_move_ready (p : Port) (params : List Byte) (s : State) (hs : s.powered = true)
    (h : (s.ports.get p).response = none) (hp : Command.move.permitted p = true)
    (hl : params.length = Command.move.paramBytes) :
    exec (.move p params) s =
      (let r := serve .move p params (s.setPort p { s.port p with rx := none })
       .next (r.state.respond p Command.move.code r.status r.data)) := by
  show State.whilePowered s _ = _
  rw [State.whilePowered, if_pos hs, State.commandFrame_ready _ _ _ _ h,
    State.takeRequest_answered _ _ _ _ hp hl (by decide)]

theorem exec_cancel_ready (p : Port) (params : List Byte) (s : State) (hs : s.powered = true)
    (h : (s.ports.get p).response = none) (hp : Command.cancel.permitted p = true)
    (hl : params.length = Command.cancel.paramBytes) :
    exec (.cancel p params) s =
      (let r := serve .cancel p params (s.setPort p { s.port p with rx := none })
       .next (r.state.respond p Command.cancel.code r.status r.data)) := by
  show State.whilePowered s _ = _
  rw [State.whilePowered, if_pos hs, State.commandFrame_ready _ _ _ _ h,
    State.takeRequest_answered _ _ _ _ hp hl (by decide)]

theorem exec_reprioritize_ready (p : Port) (params : List Byte) (s : State) (hs : s.powered = true)
    (h : (s.ports.get p).response = none) (hp : Command.reprioritize.permitted p = true)
    (hl : params.length = Command.reprioritize.paramBytes) :
    exec (.reprioritize p params) s =
      (let r := serve .reprioritize p params (s.setPort p { s.port p with rx := none })
       .next (r.state.respond p Command.reprioritize.code r.status r.data)) := by
  show State.whilePowered s _ = _
  rw [State.whilePowered, if_pos hs, State.commandFrame_ready _ _ _ _ h,
    State.takeRequest_answered _ _ _ _ hp hl (by decide)]

theorem exec_pin_ready (p : Port) (params : List Byte) (s : State) (hs : s.powered = true)
    (h : (s.ports.get p).response = none) (hp : Command.pin.permitted p = true)
    (hl : params.length = Command.pin.paramBytes) :
    exec (.pin p params) s =
      (let r := serve .pin p params (s.setPort p { s.port p with rx := none })
       .next (r.state.respond p Command.pin.code r.status r.data)) := by
  show State.whilePowered s _ = _
  rw [State.whilePowered, if_pos hs, State.commandFrame_ready _ _ _ _ h,
    State.takeRequest_answered _ _ _ _ hp hl (by decide)]

theorem exec_unpin_ready (p : Port) (params : List Byte) (s : State) (hs : s.powered = true)
    (h : (s.ports.get p).response = none) (hp : Command.unpin.permitted p = true)
    (hl : params.length = Command.unpin.paramBytes) :
    exec (.unpin p params) s =
      (let r := serve .unpin p params (s.setPort p { s.port p with rx := none })
       .next (r.state.respond p Command.unpin.code r.status r.data)) := by
  show State.whilePowered s _ = _
  rw [State.whilePowered, if_pos hs, State.commandFrame_ready _ _ _ _ h,
    State.takeRequest_answered _ _ _ _ hp hl (by decide)]

theorem exec_unpinAll_ready (p : Port) (params : List Byte) (s : State) (hs : s.powered = true)
    (h : (s.ports.get p).response = none) (hp : Command.unpinAll.permitted p = true)
    (hl : params.length = Command.unpinAll.paramBytes) :
    exec (.unpinAll p params) s =
      (let r := serve .unpinAll p params (s.setPort p { s.port p with rx := none })
       .next (r.state.respond p Command.unpinAll.code r.status r.data)) := by
  show State.whilePowered s _ = _
  rw [State.whilePowered, if_pos hs, State.commandFrame_ready _ _ _ _ h,
    State.takeRequest_answered _ _ _ _ hp hl (by decide)]

theorem exec_hold_ready (p : Port) (params : List Byte) (s : State) (hs : s.powered = true)
    (h : (s.ports.get p).response = none) (hp : Command.hold.permitted p = true)
    (hl : params.length = Command.hold.paramBytes) :
    exec (.hold p params) s =
      (let r := serve .hold p params (s.setPort p { s.port p with rx := none })
       .next (r.state.respond p Command.hold.code r.status r.data)) := by
  show State.whilePowered s _ = _
  rw [State.whilePowered, if_pos hs, State.commandFrame_ready _ _ _ _ h,
    State.takeRequest_answered _ _ _ _ hp hl (by decide)]

theorem exec_release_ready (p : Port) (params : List Byte) (s : State) (hs : s.powered = true)
    (h : (s.ports.get p).response = none) (hp : Command.release.permitted p = true)
    (hl : params.length = Command.release.paramBytes) :
    exec (.release p params) s =
      (let r := serve .release p params (s.setPort p { s.port p with rx := none })
       .next (r.state.respond p Command.release.code r.status r.data)) := by
  show State.whilePowered s _ = _
  rw [State.whilePowered, if_pos hs, State.commandFrame_ready _ _ _ _ h,
    State.takeRequest_answered _ _ _ _ hp hl (by decide)]

theorem exec_pauseBalancer_ready (p : Port) (params : List Byte) (s : State) (hs : s.powered = true)
    (h : (s.ports.get p).response = none) (hp : Command.pauseBalancer.permitted p = true)
    (hl : params.length = Command.pauseBalancer.paramBytes) :
    exec (.pauseBalancer p params) s =
      (let r := serve .pauseBalancer p params (s.setPort p { s.port p with rx := none })
       .next (r.state.respond p Command.pauseBalancer.code r.status r.data)) := by
  show State.whilePowered s _ = _
  rw [State.whilePowered, if_pos hs, State.commandFrame_ready _ _ _ _ h,
    State.takeRequest_answered _ _ _ _ hp hl (by decide)]

theorem exec_resumeBalancer_ready (p : Port) (params : List Byte) (s : State) (hs : s.powered = true)
    (h : (s.ports.get p).response = none) (hp : Command.resumeBalancer.permitted p = true)
    (hl : params.length = Command.resumeBalancer.paramBytes) :
    exec (.resumeBalancer p params) s =
      (let r := serve .resumeBalancer p params (s.setPort p { s.port p with rx := none })
       .next (r.state.respond p Command.resumeBalancer.code r.status r.data)) := by
  show State.whilePowered s _ = _
  rw [State.whilePowered, if_pos hs, State.commandFrame_ready _ _ _ _ h,
    State.takeRequest_answered _ _ _ _ hp hl (by decide)]

theorem exec_clearFault_ready (p : Port) (params : List Byte) (s : State) (hs : s.powered = true)
    (h : (s.ports.get p).response = none) (hp : Command.clearFault.permitted p = true)
    (hl : params.length = Command.clearFault.paramBytes) :
    exec (.clearFault p params) s =
      (let r := serve .clearFault p params (s.setPort p { s.port p with rx := none })
       .next (r.state.respond p Command.clearFault.code r.status r.data)) := by
  show State.whilePowered s _ = _
  rw [State.whilePowered, if_pos hs, State.commandFrame_ready _ _ _ _ h,
    State.takeRequest_answered _ _ _ _ hp hl (by decide)]

theorem exec_survey_ready (p : Port) (params : List Byte) (s : State) (hs : s.powered = true)
    (h : (s.ports.get p).response = none) (hp : Command.survey.permitted p = true)
    (hl : params.length = Command.survey.paramBytes) :
    exec (.survey p params) s =
      (let r := serve .survey p params (s.setPort p { s.port p with rx := none })
       .next (r.state.respond p Command.survey.code r.status r.data)) := by
  show State.whilePowered s _ = _
  rw [State.whilePowered, if_pos hs, State.commandFrame_ready _ _ _ _ h,
    State.takeRequest_answered _ _ _ _ hp hl (by decide)]

theorem exec_clearAlarms_ready (p : Port) (params : List Byte) (s : State) (hs : s.powered = true)
    (h : (s.ports.get p).response = none) (hp : Command.clearAlarms.permitted p = true)
    (hl : params.length = Command.clearAlarms.paramBytes) :
    exec (.clearAlarms p params) s =
      (let r := serve .clearAlarms p params (s.setPort p { s.port p with rx := none })
       .next (r.state.respond p Command.clearAlarms.code r.status r.data)) := by
  show State.whilePowered s _ = _
  rw [State.whilePowered, if_pos hs, State.commandFrame_ready _ _ _ _ h,
    State.takeRequest_answered _ _ _ _ hp hl (by decide)]

theorem exec_setAlarmMask_ready (p : Port) (params : List Byte) (s : State) (hs : s.powered = true)
    (h : (s.ports.get p).response = none) (hp : Command.setAlarmMask.permitted p = true)
    (hl : params.length = Command.setAlarmMask.paramBytes) :
    exec (.setAlarmMask p params) s =
      (let r := serve .setAlarmMask p params (s.setPort p { s.port p with rx := none })
       .next (r.state.respond p Command.setAlarmMask.code r.status r.data)) := by
  show State.whilePowered s _ = _
  rw [State.whilePowered, if_pos hs, State.commandFrame_ready _ _ _ _ h,
    State.takeRequest_answered _ _ _ _ hp hl (by decide)]

theorem exec_writeSetting_ready (p : Port) (params : List Byte) (s : State) (hs : s.powered = true)
    (h : (s.ports.get p).response = none) (hp : Command.writeSetting.permitted p = true)
    (hl : params.length = Command.writeSetting.paramBytes) :
    exec (.writeSetting p params) s =
      (let r := serve .writeSetting p params (s.setPort p { s.port p with rx := none })
       .next (r.state.respond p Command.writeSetting.code r.status r.data)) := by
  show State.whilePowered s _ = _
  rw [State.whilePowered, if_pos hs, State.commandFrame_ready _ _ _ _ h,
    State.takeRequest_answered _ _ _ _ hp hl (by decide)]

theorem exec_writeConnection_ready (p : Port) (params : List Byte) (s : State) (hs : s.powered = true)
    (h : (s.ports.get p).response = none) (hp : Command.writeConnection.permitted p = true)
    (hl : params.length = Command.writeConnection.paramBytes) :
    exec (.writeConnection p params) s =
      (let r := serve .writeConnection p params (s.setPort p { s.port p with rx := none })
       .next (r.state.respond p Command.writeConnection.code r.status r.data)) := by
  show State.whilePowered s _ = _
  rw [State.whilePowered, if_pos hs, State.commandFrame_ready _ _ _ _ h,
    State.takeRequest_answered _ _ _ _ hp hl (by decide)]

theorem exec_writeTrigger_ready (p : Port) (params : List Byte) (s : State) (hs : s.powered = true)
    (h : (s.ports.get p).response = none) (hp : Command.writeTrigger.permitted p = true)
    (hl : params.length = Command.writeTrigger.paramBytes) :
    exec (.writeTrigger p params) s =
      (let r := serve .writeTrigger p params (s.setPort p { s.port p with rx := none })
       .next (r.state.respond p Command.writeTrigger.code r.status r.data)) := by
  show State.whilePowered s _ = _
  rw [State.whilePowered, if_pos hs, State.commandFrame_ready _ _ _ _ h,
    State.takeRequest_answered _ _ _ _ hp hl (by decide)]

theorem exec_saveSettings_ready (p : Port) (params : List Byte) (s : State) (hs : s.powered = true)
    (h : (s.ports.get p).response = none) (hp : Command.saveSettings.permitted p = true)
    (hl : params.length = Command.saveSettings.paramBytes) :
    exec (.saveSettings p params) s =
      (let r := serve .saveSettings p params (s.setPort p { s.port p with rx := none })
       .next (r.state.respond p Command.saveSettings.code r.status r.data)) := by
  show State.whilePowered s _ = _
  rw [State.whilePowered, if_pos hs, State.commandFrame_ready _ _ _ _ h,
    State.takeRequest_answered _ _ _ _ hp hl (by decide)]

theorem exec_setTime_ready (p : Port) (params : List Byte) (s : State) (hs : s.powered = true)
    (h : (s.ports.get p).response = none) (hp : Command.setTime.permitted p = true)
    (hl : params.length = Command.setTime.paramBytes) :
    exec (.setTime p params) s =
      (let r := serve .setTime p params (s.setPort p { s.port p with rx := none })
       .next (r.state.respond p Command.setTime.code r.status r.data)) := by
  show State.whilePowered s _ = _
  rw [State.whilePowered, if_pos hs, State.commandFrame_ready _ _ _ _ h,
    State.takeRequest_answered _ _ _ _ hp hl (by decide)]

theorem exec_restart_ready (p : Port) (params : List Byte) (s : State) (hs : s.powered = true)
    (h : (s.ports.get p).response = none) (hp : Command.restart.permitted p = true)
    (hl : params.length = Command.restart.paramBytes) :
    exec (.restart p params) s =
      (let r := serve .restart p params (s.setPort p { s.port p with rx := none })
       .next ((r.state.respond p Command.restart.code r.status r.data).afterResponse .restart r.status)) := by
  show State.whilePowered s _ = _
  rw [State.whilePowered, if_pos hs, State.commandFrame_ready _ _ _ _ h,
    State.takeRequest_served _ _ _ _ hp hl]

end Sys2Proof.Machine
end

