-- ==== Sys2Proof/Laws/Tail.lean ====
section
/-!
SUPPORT. Everything the last parts of an event can do (R131, R103, R115, R165), once: `finish_effects`,
`finishTransfer_eq_finish` and `finishTransfer_restarts`. A proof about a command cites them and unfolds neither the
dispatch choice nor the arbiter.
-/

namespace Sys2Proof.Claims

open Sys2Proof.Machine

/-- Lines that are what `lineOf` says follow the sets and masks (R165). -/
theorem lines_iff (s : State) (h : s.attention = ⟨s.lineOf .op, s.lineOf .sp, s.lineOf .pp⟩) : LinesFollow s := by
  intro p
  have : s.attention.get p = s.lineOf p := by rw [h]; cases p <;> rfl
  rw [this, State.lineOf]
  constructor
  · intro hh
    simp [AlarmSet.nonempty, AlarmSet.inter] at hh
    rcases hh with ((((((h | h) | h) | h) | h) | h) | h) | h
    · exact ⟨.unitLost, h⟩
    · exact ⟨.unitMismatch, h⟩
    · exact ⟨.transferFault, h⟩
    · exact ⟨.meteringLost, h⟩
    · exact ⟨.phaseLow, h⟩
    · exact ⟨.phaseHigh, h⟩
    · exact ⟨.holdChanged, h⟩
    · exact ⟨.settingsDefaulted, h⟩
  · rintro ⟨a, h1, h2⟩
    cases a <;> simp_all [AlarmSet.nonempty, AlarmSet.inter, AlarmSet.has]

theorem lines_setLines (s : State) : LinesFollow s.setLines := lines_iff _ (by simp [State.setLines, State.lineOf])

/-- What one of the last parts of an event may change: a context in flight keeps its order and its state, an order stays
queued or is in a context, and no connection record changes but in its motion, QUEUED to ARMING by a dispatch. -/
def TailPart (s t : State) : Prop :=
  t = { s with queue := t.queue, conns := t.conns, bus := t.bus, transfers := t.transfers, attention := t.attention }
    ∧ t.queue.admissions = s.queue.admissions
    ∧ (∀ o ∈ t.queue.orders, o ∈ s.queue.orders)
    ∧ (∀ o ∈ s.queue.orders, o ∈ t.queue.orders
        ∨ ∃ k x, t.context k = some x ∧ x.order ∈ s.queue.orders ∧ x.order.conn = o.conn)
    ∧ (∀ c, t.conn c = s.conn c ∨ t.conn c = { s.conn c with motion := .arming }
        ∧ ∃ k x, t.context k = some x ∧ x.order ∈ s.queue.orders ∧ x.order.conn = c)
    ∧ (∀ k x, s.context k = some x → ∃ y, t.context k = some y ∧ y.order = x.order ∧ y.state = x.state
        ∧ y.sourcePhase = x.sourcePhase ∧ y.dispatchNumber = x.dispatchNumber)

theorem TailPart.refl (s : State) : TailPart s s := ⟨rfl, rfl, fun _ h => h, fun _ h => .inl h, fun _ => .inl rfl, fun _ x h => ⟨x, h, rfl, rfl, rfl, rfl⟩⟩

theorem TailPart.trans {s t u : State} (h : TailPart s t) (g : TailPart t u) : TailPart s u := by
  obtain ⟨h1, h2, h3, h4, h5, h6⟩ := h
  obtain ⟨g1, g2, g3, g4, g5, g6⟩ := g
  refine ⟨?_, g2.trans h2, fun o ho => h3 o (g3 o ho), ?_, ?_, ?_⟩
  · rw [g1, h1]
  · intro o ho
    rcases h4 o ho with h | ⟨k, x, hx, hm, hc⟩
    · rcases g4 o h with g | ⟨k, x, hx, hm, hc⟩
      · exact .inl g
      · exact .inr ⟨k, x, hx, h3 _ hm, hc⟩
    · obtain ⟨y, hy, ho', -, -, -⟩ := g6 k x hx
      exact .inr ⟨k, y, hy, ho' ▸ hm, ho' ▸ hc⟩
  · intro c
    rcases g5 c with g | ⟨g, k, x, hx, hm, hc⟩
    · rcases h5 c with h | ⟨h, k, x, hx, hm, hc⟩
      · exact .inl (g.trans h)
      · obtain ⟨y, hy, ho', -, -, -⟩ := g6 k x hx
        exact .inr ⟨g.trans h, k, y, hy, ho' ▸ hm, ho' ▸ hc⟩
    · refine .inr ⟨?_, k, x, hx, h3 _ hm, hc⟩
      rcases h5 c with h | ⟨h, -⟩
      · rw [g, h]
      · rw [g, h]
  · intro k x hx
    obtain ⟨y, hy, e1, e2, e3, e4⟩ := h6 k x hx
    obtain ⟨z, hz, f1, f2, f3, f4⟩ := g6 k y hy
    exact ⟨z, hz, f1.trans e1, f2.trans e2, f3.trans e3, f4.trans e4⟩

/-- A part that touches the bus and the contexts alone, and keeps each context's order and state. -/
theorem TailPart.of_ctx {s t : State} (h : t = { s with bus := t.bus, transfers := t.transfers, attention := t.attention })
   (hk : ∀ k x, s.context k = some x → ∃ y, t.context k = some y ∧ y.order = x.order ∧ y.state = x.state
        ∧ y.sourcePhase = x.sourcePhase ∧ y.dispatchNumber = x.dispatchNumber) : TailPart s t := by
  have hq : t.queue = s.queue := by rw [h]
  have hc : t.conns = s.conns := by rw [h]
  refine ⟨?_, by rw [hq], by rw [hq]; exact fun _ h => h, by rw [hq]; exact fun _ h => .inl h, fun c => .inl (State.conn_congr hc c), hk⟩
  rw [hq, hc]; exact h

theorem inFlight_mem (s : State) (k : CtxId) (x : Context) : (k, x) ∈ s.inFlight ↔ s.context k = some x := by
  unfold State.inFlight
  cases h1 : s.context .first <;> cases h2 : s.context .second <;> cases k <;> simp [h1, h2, eq_comm]

theorem foldl_pick {α : Type} (p : α → α → Bool) (l : List α) (a : α) :
    l.foldl (fun b c => if p c b then c else b) a = a ∨ l.foldl (fun b c => if p c b then c else b) a ∈ l := by
  induction l generalizing a with
  | nil => exact .inl rfl
  | cons b l ih =>
    simp only [List.foldl_cons]
    rcases ih (if p b a then b else a) with h | h
    · rw [h]; split <;> simp
    · exact .inr (List.mem_cons_of_mem _ h)

theorem earliest_some (s : State) (test) (e) (h : s.earliest test = some e) : s.context e.1 = some e.2 ∧ test e.1 e.2 = true := by
  unfold State.earliest at h
  split at h
  · cases h
  · rename_i a l hl
    injection h with h
    have hm : e ∈ s.inFlight.filter fun e => test e.1 e.2 := by
      rw [hl, ← h]
      have := foldl_pick (fun (f b : CtxId × Context) => decide (f.2.dispatchNumber < b.2.dispatchNumber)) l a
      simp only [decide_eq_true_eq] at this
      rcases this with h | h
      · rw [h]; simp
      · exact List.mem_cons_of_mem _ h
    rw [List.mem_filter] at hm
    exact ⟨(inFlight_mem s e.1 e.2).mp hm.1, hm.2⟩

theorem setContext_pre (s : State) (k) (x y : Context) (hx : s.context k = some x) (e1 : y.order = x.order) (e2 : y.state = x.state)
   (e3 : y.sourcePhase = x.sourcePhase) (e4 : y.dispatchNumber = x.dispatchNumber) : TailPart s (s.setContext k (some y)) := by
  apply TailPart.of_ctx
  · rfl
  · intro j z hz
    rw [State.setContext_context]
    by_cases hj : j = k
    · subst hj; rw [hx] at hz; cases hz; exact ⟨y, by simp, e1, e2, e3, e4⟩
    · exact ⟨z, by simp [hj, hz], rfl, rfl, rfl, rfl⟩

theorem bus_pre (s : State) (b : Bus) : TailPart s (s.withBus b) := by
  apply TailPart.of_ctx
  · rfl
  · intro j z hz; exact ⟨z, hz, rfl, rfl, rfl, rfl⟩

theorem send_pre (s : State) (c r q) : TailPart s (s.send c r q) := bus_pre _ _

theorem grantContext_pre (s : State) (k x r) (hx : s.context k = some x) : TailPart s (s.grantContext k x r) := by
  unfold State.grantContext
  cases r
  all_goals
    refine TailPart.trans (setContext_pre s k x _ hx ?_ ?_ ?_ ?_) (send_pre _ _ _ _)
    all_goals rfl

theorem grantSurvey_pre (s : State) : TailPart s s.grantSurvey := by
  unfold State.grantSurvey; split
  · split
    · exact bus_pre _ _
    · exact TailPart.trans (bus_pre _ _) (send_pre _ _ _ _)
  · exact TailPart.refl s

theorem grantRoutine_pre (s : State) : TailPart s s.grantRoutine := by
  unfold State.grantRoutine; split
  · dsimp only; split
    · exact TailPart.trans (bus_pre _ _) (send_pre _ _ _ _)
    · exact TailPart.trans (bus_pre _ _) (grantSurvey_pre _)
  · exact grantSurvey_pre s

theorem arbitrate_pre (s : State) : TailPart s s.arbitrate := by
  unfold State.arbitrate
  split
  · exact TailPart.refl s
  · split
    · rename_i k x h; exact grantContext_pre _ _ _ _ (earliest_some s _ _ h).1
    · split
      · exact TailPart.trans (bus_pre _ _) (send_pre _ _ _ _)
      · split
        · rename_i k x h; exact grantContext_pre _ _ _ _ (earliest_some s _ _ h).1
        · split
          · rename_i k x h; exact grantContext_pre _ _ _ _ (earliest_some s _ _ h).1
          · exact grantRoutine_pre s

theorem takeFireSlot_pre (s : State) : TailPart s s.takeFireSlot := by
  unfold State.takeFireSlot
  split
  · split
    · rename_i k x h
      have hx := (earliest_some s _ _ h).1
      simp only at hx
      apply TailPart.of_ctx
      · rfl
      · intro j z hz
        have : ∀ j, State.context (s.withTransfers { s.transfers.put k (some { x with armDeadline := none, slot := some .fire }) with fireSlot := some k }) j = (s.setContext k (some { x with armDeadline := none, slot := some .fire })).context j := by
          intro j; cases j <;> rfl
        rw [this, State.setContext_context]
        by_cases hj : j = k
        · subst hj; rw [hx] at hz; cases hz; exact ⟨_, if_pos rfl, rfl, rfl, rfl, rfl⟩
        · exact ⟨z, by simp [hj, hz], rfl, rfl, rfl, rfl⟩
    · exact TailPart.refl s
  · exact TailPart.refl s

theorem bestOrder_mem (s : State) (o) (h : s.bestOrder = some o) : o ∈ s.queue.orders := by
  unfold State.bestOrder at h
  split at h
  · cases h
  · rename_i a l hl
    injection h with h
    have hm : o ∈ s.queue.orders.filter fun o => decide (1 ≤ o.priority) && s.dispatchable o := by
      rw [hl, ← h]
      rcases foldl_pick (fun (p b : Order) => p.before b) l a with h | h
      · rw [h]; simp
      · exact List.mem_cons_of_mem _ h
    exact (List.mem_filter.mp hm).1

theorem freeContext_none (s : State) (k) (h : s.freeContext = some k) : s.context k = none := by
  unfold State.freeContext at h
  split at h
  · rename_i g; cases h; exact Option.isNone_iff_eq_none.mp g
  · split at h
    · rename_i g; cases h; exact Option.isNone_iff_eq_none.mp g
    · cases h

theorem dispatch_context (s : State) (k o j) : (s.dispatch k o).context j = if j = k then some (s.newContext o) else s.context j := by
  unfold State.dispatch
  cases k <;> cases j <;> rfl

theorem dispatch_pre (s : State) (k o) (hk : s.context k = none) (ho : o ∈ s.queue.orders) : TailPart s (s.dispatch k o) := by
  have hq : (s.dispatch k o).queue = { s.queue with orders := s.queue.orders.filter fun q => q.conn != o.conn } := by
    unfold State.dispatch; simp
  have hc : ∀ c, (s.dispatch k o).conn c = if c = o.conn then { s.conn o.conn with motion := .arming } else s.conn c := by
    intro c
    unfold State.dispatch
    dsimp only
    rw [State.clearDisarm, State.conn_congr (State.withBus_conns _ _), State.setMotion_conn]
    rfl
  refine ⟨?_, by rw [hq], ?_, ?_, ?_, ?_⟩
  · refine State.eq_of_fields ?_ ?_ ?_ ?_ ?_ ?_ ?_ ?_ ?_ ?_ ?_ ?_ ?_ ?_ ?_ ?_ ?_ ?_ <;> simp
  · rw [hq]; intro q h; exact (List.mem_filter.mp h).1
  · intro q h
    by_cases hqo : q.conn = o.conn
    · exact .inr ⟨k, s.newContext o, by rw [dispatch_context]; simp, ho, hqo.symm⟩
    · left; rw [hq]; exact List.mem_filter.mpr ⟨h, by simpa using hqo⟩
  · intro c
    rw [hc]
    by_cases h : c = o.conn
    · right; subst h; exact ⟨by simp, k, s.newContext o, by rw [dispatch_context]; simp, ho, rfl⟩
    · left; simp [h]
  · intro j x hx
    refine ⟨x, ?_, rfl, rfl, rfl, rfl⟩
    rw [dispatch_context]
    have : j ≠ k := by rintro rfl; rw [hk] at hx; cases hx
    simp [this, hx]

theorem dispatchOnce_pre (s : State) : TailPart s s.dispatchOnce := by
  unfold State.dispatchOnce
  split
  · split
    · rename_i k o hk ho; exact dispatch_pre _ _ _ (freeContext_none s k hk) (bestOrder_mem s o ho)
    · exact TailPart.refl s
  · exact TailPart.refl s

theorem setLines_pre (s : State) : TailPart s s.setLines := by
  apply TailPart.of_ctx
  · rfl
  · intro j z hz; exact ⟨z, hz, rfl, rfl, rfl, rfl⟩

/-- Everything the last parts of an event can change. -/
theorem finish_effects (s : State) : TailPart s s.finish ∧ LinesFollow s.finish := by
  refine ⟨?_, lines_setLines _⟩
  unfold State.finish State.dispatchChoice
  exact ((((takeFireSlot_pre s).trans (dispatchOnce_pre _)).trans (dispatchOnce_pre _)).trans (arbitrate_pre _)).trans (setLines_pre _)

/-- What `Tail` lets change. -/
theorem Tail.effects {s t : State} (h : Tail s t) : TailPart s t ∧ LinesFollow t := by
  rw [show t = s.finish from h]; exact finish_effects s

theorem tailPart_respond (s t : State) (p : PerPort PortState) (h : TailPart s t) :
    TailPart (s.withPorts p) (t.withPorts p) := by
  obtain ⟨h1, h2, h3, h4, h5, h6⟩ := h
  refine ⟨?_, h2, h3, h4, h5, h6⟩
  show t.withPorts p = _
  conv_lhs => rw [h1]
  rfl

/-! ### The deferred restart (R191) -/

theorem restartHeld_iff (s : State) : s.restartHeld = true ↔ RestartHeld s := by
  unfold State.restartHeld RestartHeld
  simp only [Bool.or_eq_true, List.any_eq_true, beq_iff_eq, Prod.exists, inFlight_mem]

/-- Under a deferral no context takes the fire slot and no order is dispatched (R103, R131). -/
theorem takeFireSlot_deferred (s : State) (h : s.restartDeferred = true) : s.takeFireSlot = s := by
  unfold State.takeFireSlot State.movesAllowed; simp [h]

theorem dispatchOnce_deferred (s : State) (h : s.restartDeferred = true) : s.dispatchOnce = s := by
  unfold State.dispatchOnce State.movesAllowed; simp [h]

theorem dispatchChoice_deferred (s : State) (h : s.restartDeferred = true) : s.dispatchChoice = s := by
  unfold State.dispatchChoice; rw [dispatchOnce_deferred s h, dispatchOnce_deferred s h]

theorem dispatchOnce_restartDeferred (s : State) : s.dispatchOnce.restartDeferred = s.restartDeferred := by
  rw [(dispatchOnce_pre s).1]

theorem takeFireSlot_restartDeferred (s : State) : s.takeFireSlot.restartDeferred = s.restartDeferred := by
  rw [(takeFireSlot_pre s).1]

/-- With no restart deferred, or with one that is held, the end of an event that may end a transfer is the end of any
event. -/
theorem finishTransfer_eq_finish (s : State) (h : s.restartDeferred = false ∨ RestartHeld s) :
    s.finishTransfer = s.finish := by
  have e : s.takeFireSlot.dispatchChoice.restartIfDue = s.takeFireSlot.dispatchChoice := by
    unfold State.restartIfDue
    rw [if_neg]
    rintro ⟨h1, h2⟩
    rcases h with h | h
    · rw [State.dispatchChoice, dispatchOnce_restartDeferred, dispatchOnce_restartDeferred,
        takeFireSlot_restartDeferred] at h1
      simp [h] at h1
    · have hd : s.restartDeferred = true := by
        rwa [State.dispatchChoice, dispatchOnce_restartDeferred, dispatchOnce_restartDeferred,
          takeFireSlot_restartDeferred] at h1
      rw [takeFireSlot_deferred s hd, dispatchChoice_deferred s hd] at h2
      rw [(restartHeld_iff s).mpr h] at h2; cases h2
  unfold State.finishTransfer State.finish
  rw [e]

/-- A deferred restart that nothing holds takes effect at the end of an event that may have ended a transfer. -/
theorem finishTransfer_restarts (s : State) (h : s.restartDeferred = true) (g : ¬ RestartHeld s) :
    s.finishTransfer = s.restartEffect.arbitrate.setLines := by
  have hf : s.restartHeld = false := by
    rw [← restartHeld_iff] at g; simpa using g
  unfold State.finishTransfer State.restartIfDue
  rw [takeFireSlot_deferred s h, dispatchChoice_deferred s h, if_pos ⟨h, hf⟩]

end Sys2Proof.Claims
end

