-- ==== Sys2Proof/Laws/Wire.lean ====
section
/-!
SUPPORT. The wire conventions that the statements spell out are those of the meanings: one lemma for each byte layout,
code and table, and `crcOf_eq` for the CRC. A proof about bytes rewrites with them and unfolds no layout.
-/

namespace Sys2Proof.Claims

open Sys2Proof.Machine

/-! ### Numbers, flags and sets (R176) -/

@[simp] theorem twoBytes_eq (h : Half) : twoBytes h = halfBytes h := by
  simp only [twoBytes, halfBytes, byteOf, List.cons.injEq, and_true]
  constructor <;> apply BitVec.eq_of_toNat_eq <;> simp [BitVec.extractLsb'_toNat, Nat.shiftRight_eq_div_pow]

@[simp] theorem fourBytes_eq (w : Word) : fourBytes w = wordBytes w := by
  simp only [fourBytes, wordBytes, byteOf, List.cons.injEq, and_true]
  refine ⟨?_, ?_, ?_, ?_⟩ <;> apply BitVec.eq_of_toNat_eq <;>
    simp [BitVec.extractLsb'_toNat, Nat.shiftRight_eq_div_pow]

@[simp] theorem twoOf_eq (n : Nat) : twoOf n = natHalf n := twoBytes_eq _

@[simp] theorem twoOfInt_eq (n : Int) : twoOfInt n = intHalf n := twoBytes_eq _

@[simp] theorem fourOf_eq (n : Nat) : fourOf n = natWord n := fourBytes_eq _

@[simp] theorem fourOfInt_eq (n : Int) : fourOfInt n = intWord n := fourBytes_eq _

@[simp] theorem fromTwo_eq (high low : Byte) : fromTwo high low = readHalf high low := by
  apply BitVec.eq_of_toNat_eq
  have h := high.isLt
  have l := low.isLt
  rw [readHalf, BitVec.toNat_append, ← Nat.shiftLeft_add_eq_or_of_lt l, Nat.shiftLeft_eq]
  simp only [fromTwo, BitVec.toNat_ofNat]
  omega

@[simp] theorem fromFour_eq (a b c d : Byte) : fromFour a b c d = readWord a b c d := by
  apply BitVec.eq_of_toNat_eq
  have ha := a.isLt
  have hb := b.isLt
  have hc := c.isLt
  have hd := d.isLt
  rw [readWord, BitVec.toNat_append, ← Nat.shiftLeft_add_eq_or_of_lt hd, Nat.shiftLeft_eq, BitVec.toNat_append,
    ← Nat.shiftLeft_add_eq_or_of_lt hc, Nat.shiftLeft_eq, BitVec.toNat_append, ← Nat.shiftLeft_add_eq_or_of_lt hb,
    Nat.shiftLeft_eq]
  simp only [fromFour, BitVec.toNat_ofNat]
  omega

@[simp] theorem flagCode_eq (b : Bool) : flagCode b = flagByte b := rfl

@[simp] theorem phasesCode_eq (v : PhaseSet) : phasesCode v = phaseSetByte v := by
  obtain ⟨a, b, c⟩ := v
  revert a b c
  decide

@[simp] theorem pinsCode_eq (v : PinSet) : pinsCode v = v.byte := by
  obtain ⟨a, b, c, d⟩ := v
  revert a b c d
  decide

@[simp] theorem holdCode_eq (v : HoldSet) : holdCode v = v.byte := by
  obtain ⟨a, b⟩ := v
  revert a b
  decide

@[simp] theorem alarmsCode_eq (v : AlarmSet) : alarmsCode v = v.byte := by
  obtain ⟨a, b, c, d, e, f, g, h⟩ := v
  revert a b c d e f g h
  decide

@[simp] theorem alarmsNamed_eq (b : Byte) : alarmsNamed b = AlarmSet.ofByte b := rfl

/-! ### Codes and tables (R176, R188, R81) -/

@[simp] theorem phaseCode_eq (p : Option Phase) : phaseCode p = phaseByte p := by
  rcases p with _ | p
  · rfl
  · cases p <;> rfl

@[simp] theorem phaseNamed_eq (b : Byte) : phaseNamed b = readPhase b := rfl

@[simp] theorem triggerCode_eq (i : Option TriggerId) : triggerCode i = triggerByte i := by cases i <;> rfl

@[simp] theorem kindCode_eq (k : Kind) : kindCode k = k.byte := by cases k <;> rfl

@[simp] theorem sourceCode_eq (v : Source) : sourceCode v = v.byte := by cases v <;> rfl

@[simp] theorem outcomeCode_eq (v : LogOutcome) : outcomeCode v = v.byte := by cases v <;> rfl

@[simp] theorem engineCode_eq (v : EngineState) : engineCode v = v.byte := by cases v <;> rfl

@[simp] theorem meteringCode_eq (v : MeteringStatus) : meteringCode v = v.byte := by cases v <;> rfl

@[simp] theorem holdoverCode_eq (v : Holdover) : holdoverCode v = v.byte := by cases v <;> rfl

@[simp] theorem quantityCode_eq (v : Quantity) : quantityCode v = v.byte := by cases v <;> rfl

@[simp] theorem comparisonCode_eq (v : Comparison) : comparisonCode v = v.byte := by cases v <;> rfl

@[simp] theorem unitAddress_eq (c : ConnId) : unitAddress c = busAddress c := rfl

@[simp] theorem settingRow_number (id : SettingId) : (settingRow id).number = id.number.val := by cases id <;> rfl

@[simp] theorem settingRow_values (id : SettingId) : (settingRow id).values = id.values := by cases id <;> rfl

@[simp] theorem thresholdRange_eq (q : Quantity) : thresholdRange q = (q.thresholdLow, q.thresholdHigh) := by
  cases q <;> rfl

/-! ### The CRC (R167) -/

theorem crcShift_xor (x y : Half) : crcShift (x ^^^ y) = crcShift x ^^^ crcShift y := by
  unfold crcShift
  rw [BitVec.getLsbD_xor]
  cases x.getLsbD 15 <;> cases y.getLsbD 15 <;> simp only [Bool.xor_self, Bool.xor_false, Bool.false_xor, reduceIte,
    Bool.false_eq_true, BitVec.shiftLeft_xor_distrib] <;> generalize x <<< 1 = a <;> generalize y <<< 1 = b
  · rw [BitVec.xor_assoc]
  · rw [BitVec.xor_assoc, BitVec.xor_comm b, ← BitVec.xor_assoc]
  · rw [BitVec.xor_comm b, BitVec.xor_assoc, ← BitVec.xor_assoc (0x1021 : Half), BitVec.xor_self, BitVec.zero_xor]

/-- One message bit is a shift of the register and, for a set bit, the polynomial. -/
theorem crcBit_eq (crc : Half) (bit : Bool) : crcBit crc bit = crcShift crc ^^^ (if bit then 0x1021 else 0) := by
  unfold crcBit crcShift
  cases crc.getLsbD 15 <;> cases bit <;> simp

/-- The register's part and the byte's part of eight message bits. -/
theorem crcByte_split (crc : Half) (b : Byte) : crcByte crc b = crcByte crc 0 ^^^ crcByte 0 b := by
  have h : crc ^^^ (b.setWidth 16 <<< 8) = (crc ^^^ ((0 : Byte).setWidth 16 <<< 8)) ^^^ ((0 : Half) ^^^ (b.setWidth 16 <<< 8)) := by
    simp
  simp only [crcByte]
  rw [h]
  simp only [crcShift_xor (crc ^^^ _), crcShift_xor (crcShift _)]

theorem crcBits_zero : ∀ b : Byte, (bitsOf b).foldl crcBit 0 = crcByte 0 b := by decide +kernel

theorem crcBits_split (bits : List Bool) (x y : Half) :
    bits.foldl crcBit (x ^^^ y) = (bits.map fun _ => false).foldl crcBit x ^^^ bits.foldl crcBit y := by
  induction bits generalizing x y with
  | nil => rfl
  | cons b bs ih =>
    have h : crcBit (x ^^^ y) b = crcBit x false ^^^ crcBit y b := by
      simp [crcBit_eq, crcShift_xor, BitVec.xor_assoc]
    simp only [List.foldl_cons, List.map_cons, h, ih]

theorem crcBits_eq (crc : Half) (b : Byte) : (bitsOf b).foldl crcBit crc = crcByte crc b := by
  have h := crcBits_split (bitsOf b) crc 0
  rw [show crc ^^^ 0 = crc from BitVec.xor_zero, crcBits_zero] at h
  rw [h, crcByte_split crc]
  congr 1
  simp [bitsOf, crcBit_eq, crcByte]

/-- The CRC of the meanings is the CRC of R167. -/
@[simp] theorem crcOf_eq (bytes : List Byte) : crcOf bytes = crc16 bytes := by
  unfold crcOf crc16
  generalize (0xFFFF : Half) = crc
  induction bytes generalizing crc with
  | nil => rfl
  | cons b bs ih => rw [List.flatMap_cons, List.foldl_append, crcBits_eq, List.foldl_cons, ih]

@[simp] theorem frameOf_eq (payload : List Byte) : frameOf payload = masterFrame payload := by
  simp [frameOf, masterFrame]

end Sys2Proof.Claims
end

