-- ==== Sys2Proof/Tests/Slice0.lean ====
section
/-!
SUPPORT. Tests of one command each, with expected results from the worked examples and tables of spec/, the refusals of
the well-formedness checks, and for each statement with hypotheses a state and operands that meet them
(`test_meets_<statement>`).
-/

namespace Sys2Proof.Tests

set_option Elab.async false

open Sys2Proof.Machine Sys2Proof.Claims

/-! ### Well-formedness: an ill-formed term for each check -/

theorem test_wf_refuses_long_parameters : (Instr.identify .op (List.replicate 120 0)).wf = false := by decide

theorem test_wf_refuses_address_0 : (Instr.idleReply 0 0 0).wf = false := by decide

theorem test_wf_refuses_address_65 : (Instr.armedReply 65 0 0).wf = false := by decide

theorem test_wf_refuses_empty_payload : (Instr.frameBuffered .op []).wf = false := by decide

theorem test_wf_refuses_payload_of_121 : (Instr.frameBuffered .pp (List.replicate 121 0)).wf = false := by
  decide +kernel

theorem test_no_word_spells_a_command : decodeTableWord 32 0x12345678 = none := by decide

/-! ### Small states -/

/-- The state after a command. -/
def after (i : Instr) (s : State) : State :=
  match exec i s with
  | .next t => t
  | .fault _ => s
  | .refused _ => s

/-- A unit PRESENT on a phase, with serial 7. -/
def unit (p : Phase) : Connection :=
  { Connection.initial with presence := .present, recordedPhase := some p, identitySerial := 7, lastSerial := 7 }

def movable : ConnConfig := ⟨.movable, ⟨true, true, true⟩, 0⟩

/-- The reset state with connections 3 and 5 MOVABLE and PRESENT on phases 1 and 2. -/
def plant : State :=
  { State.reset with
    settings := { Settings.defaults with conns := (Settings.defaults.conns.set 3 movable).set 5 movable }
    conns := (State.reset.conns.set 3 (unit .p1)).set 5 (unit .p2) }

def order (c : ConnId) (target : Phase) (src : Source) (priority : Nat) : Order :=
  ⟨c, target, src, priority, 0, c.val, 100, none, none⟩

/-- A context of connection 3's order to phase 2. -/
def ctx (state : CtxState) (src : Source) : Context :=
  { order := order 3 .p2 src 1, sourcePhase := some .p1, dispatchNumber := 1, state := state, retries := 0,
    reArmUsed := false, fireRetried := false, armHoldSent := some 3, armDeadline := none, confirmDeadline := none,
    confirmTimer := none, counterAtDispatch := some 17, slot := none }

/-- The plant with connection 3's transfer in the first context and one of its requests outstanding. -/
def transferring (x : Context) (r : BusRequest) : State :=
  { plant with
    transfers := ⟨some x, none, if x.state = .arming then none else some .first, 2⟩
    conns := plant.conns.set 3 { unit .p1 with motion := motionOf x.state }
    bus := { plant.bus with outstanding := some ⟨3, 9, r, .context 1⟩, tag := 10 } }

/-- The plant with a request outstanding that no context raised. -/
def asking (r : BusRequest) (raiser : Raiser) : State :=
  { plant with bus := { plant.bus with outstanding := some ⟨3, 9, r, raiser⟩, tag := 10 } }

def queued (os : List Order) : State :=
  { plant with queue := ⟨os, 64⟩, conns := plant.conns.set 3 { unit .p1 with motion := .queued } }

/-- A poll report. -/
def report (closed : Option Phase) (st : UnitState) (power : Int) (counter : Byte) : PollReport :=
  ⟨closed, st, none, BitVec.ofInt 16 power, false, decide (st = .fault), false, counter⟩

def responding : State :=
  { State.reset with ports := State.reset.ports.set .op { State.reset.ports.op with response := some [0x81, 0] } }

def saving : State := { State.reset with saving := some Settings.defaults }

/-! ### Chapter 1: the smoothing examples of section 1.6.1 -/

theorem test_smoothing_k2 :
    smooth false 2 800 1000 = 850 ∧ smooth false 2 (-400) (-410) = -402 ∧ smooth false 2 5 7 = 5 := by decide

theorem test_smoothing_other_shifts :
    smooth false 0 300 (-150) = -150 ∧ smooth false 4 0 (-2000) = -125 ∧ smooth false 4 (-125) (-2000) = -242
      ∧ smooth false 3 1990 2600 = 1991 := by decide

/-! ### Chapter 2: windows W2 to W4 of section 2.11 -/

def w2 : PhaseState := { PhaseState.initial with holdover := .inUse, power := 4200, voltage := 2300 }

theorem test_holdover_of_phase_2 :
    let d : DeglitchInput := ⟨2070, 2530, 20, 3⟩
    let held := w2.accept d ⟨0, 0, 0, false⟩
    let lost := held.accept d ⟨0, 0, 0, false⟩
    let back := lost.accept d ⟨3900, 2300, 0, true⟩
    held.holdover = .held ∧ held.power = 4200 ∧ lost.holdover = .unusable ∧ lost.power = 4200
      ∧ back.holdover = .inUse ∧ back.power = 3900 ∧ back.step = 0 := by decide

theorem test_voltage_sag_of_phase_1 :
    let d : DeglitchInput := ⟨2070, 2530, 20, 3⟩
    let p : PhaseState := { w2 with lowCount := 2 }
    let w4 := p.accept d ⟨4200, 2049, 0, true⟩
    let w5 := w4.accept d ⟨4200, 2080, 0, true⟩
    let w6 := w5.accept d ⟨4200, 2092, 0, true⟩
    (w4.lowCount, w4.liveLow) = (0, true) ∧ (w5.lowCount, w5.liveLow) = (0, true)
      ∧ (w6.lowCount, w6.liveLow) = (1, true) := by decide

/-! ### Chapter 3: the table of R44 and the worked cases -/

theorem test_unbalance_index :
    unbalanceIndex 0 9200 = 0 ∧ unbalanceIndex 250 9200 = 27 ∧ unbalanceIndex 9199 9200 = 999
      ∧ unbalanceIndex 1600 4500 = 355 ∧ unbalanceIndex 30000 3000 = 9999 := by decide

def every : PhaseSet := ⟨true, true, true⟩

def noPhase : PhaseSet := ⟨false, false, false⟩

/-- Section 3.10. -/
theorem test_case_evening :
    search ⟨9200, 50, 20, noPhase, noPhase⟩
      [⟨5, 800, .p1, every, 0⟩, ⟨12, 350, .p1, every, 0⟩, ⟨20, -400, .p3, every, 0⟩, ⟨31, 1200, .p2, every, 0⟩]
      2 ⟨6500, 4200, 5100⟩ []
    = ⟨[⟨5, .p1, .p2, 1600⟩, ⟨12, .p1, .p2, 450⟩], ⟨5350, 5350, 5100⟩⟩ := by decide

/-- Section 3.11: phase 1 is live-high. -/
theorem test_case_midday_export :
    search ⟨9200, 50, 20, noPhase, ⟨true, false, false⟩⟩
      [⟨3, -600, .p1, every, 0⟩, ⟨8, 900, .p2, every, 0⟩, ⟨14, -350, .p1, every, 0⟩, ⟨22, -500, .p3, every, 0⟩]
      2 ⟨-1500, 2400, 1800⟩ []
    = ⟨[⟨8, .p2, .p1, 1500⟩, ⟨3, .p1, .p3, 900⟩], ⟨0, 1500, 1200⟩⟩ := by decide

/-- Section 3.12: phase 2 is live-low. -/
theorem test_case_early_stop :
    search ⟨4500, 100, 50, ⟨false, true, false⟩, noPhase⟩
      [⟨2, 1000, .p1, every, 0⟩, ⟨9, 30, .p1, every, 0⟩, ⟨33, -450, .p2, every, 0⟩,
       ⟨47, 1500, .p3, ⟨false, true, true⟩, 0⟩]
      3 ⟨4700, 3100, 3600⟩ []
    = ⟨[⟨33, .p2, .p1, 900⟩], ⟨4250, 3550, 3600⟩⟩ := by decide

/-- Section 3.13. -/
theorem test_case_tie :
    search ⟨9200, 50, 20, noPhase, noPhase⟩
      [⟨4, 400, .p1, every, 2⟩, ⟨6, 400, .p1, every, 1⟩, ⟨11, 400, .p1, every, 1⟩] 2 ⟨3000, 2000, 2000⟩ []
    = ⟨[⟨6, .p1, .p2, 400⟩, ⟨11, .p1, .p3, 400⟩], ⟨2200, 2400, 2400⟩⟩ := by decide

/-! ### Chapter 5 -/

/-- A MOVE into an empty queue is answered NEW with the lifetime of its setting, and dispatched in the same event. -/
theorem test_move_new :
    let t := after (.move .op [3, 2, 4, 0, 0]) plant
    t.ports.op.response = some [0x90, 0x00, 0, 0xFF, 0x02, 0x58] ∧ (t.conn 3).motion = .arming
      ∧ t.bus.outstanding = some ⟨3, 0, .arm .p2 40 3, .context 1⟩ := by decide +kernel

/-- A target equal to the recorded phase is refused ALREADY_THERE (check 4 of R91). -/
theorem test_move_already_there :
    (after (.move .op [3, 1, 4, 0, 0]) plant).ports.op.response = some [0x90, 0x21] := by decide +kernel

/-- PIN from PP withdraws a balancer order (5.10, 2012 s). -/
theorem test_pin_withdraws :
    let t := after (.pin .pp [3]) (queued [order 3 .p2 .balancer 0])
    t.queue.orders = [] ∧ (t.conn 3).motion = .idle ∧ t.log.records.map (·.outcome) = [.withdrawn] := by
  decide +kernel

/-- The last second of an order's life removes it EXPIRED (5.10, 2015 s). -/
theorem test_second_expires :
    let t := after .oneSecondEvent (queued [{ order 3 .p2 .sp 0 with life := 1 }])
    t.queue.orders = [] ∧ t.log.records.map (·.outcome) = [.expired] ∧ t.partTime = 1 := by decide +kernel

/-- A hold returns a master order to the queue with a release disarm (5.10, last variant; R147). -/
theorem test_hold_returns_master_order :
    let t := after (.hold .op []) (transferring (ctx .arming .op) (.arm .p2 40 3))
    t.queue.orders = [order 3 .p2 .op 1] ∧ t.transfers.first = none ∧ (t.conn 3).motion = .queued
      ∧ t.bus.disarmSlots.get 3 = some (.release 1) ∧ t.log.records = [] := by decide +kernel

/-! ### Chapter 6: section 6.9 -/

/-- The third lapse takes a connection that was PRESENT to ABSENT with UNIT_LOST (113 s). -/
theorem test_third_lapse :
    let s := asking .poll .routine
    let t := after .lapse { s with
      conns := s.conns.set 3 { unit .p1 with presence := .lapsing, lapseCount := 2, beforeLapse := some .present } }
    (t.conn 3).presence = .absent ∧ (t.conn 3).lapseCount = 0 ∧ t.alarms.sp.unitLost = true := by decide +kernel

/-- A reply with another serial takes the connection to MISMATCH and forgets its phase (160 s). -/
theorem test_mismatch :
    let t := after (.pollReply 4 9 41388 (report (some .p3) .steady 450 0)) (asking .poll .routine)
    (t.conn 3).presence = .mismatch ∧ (t.conn 3).recordedPhase = none ∧ (t.conn 3).lastSerial = 41388
      ∧ (t.conn 3).load = 0 ∧ t.alarms.pp.unitMismatch = true := by decide +kernel

/-- The first reply after ABSENT sets the load directly and starts the arrival hold (176 s). -/
theorem test_arrival :
    let s := asking .poll .survey
    let t := after (.pollReply 4 9 41388 (report (some .p3) .steady 450 0)) { s with
      conns := s.conns.set 3 { unit .p1 with presence := .absent, recordedPhase := none } }
    (t.conn 3).presence = .arriving ∧ (t.conn 3).arrivalHold = 30 ∧ (t.conn 3).load = 450
      ∧ (t.conn 3).recordedPhase = some .p3 ∧ t.log.records = [] := by decide +kernel

/-- A hand change opens the contact as a transfer does (R112): the unit answers BUSY meanwhile, and its counter has gone
up; the contact then closes on the phase the switch names. -/
theorem test_hand_change :
    let u : SelectorUnit := ⟨7, some .p1, .steady, none, none, 41, true, false, false, 0⟩
    let turning := u.handChange .p2
    (turning.closed, turning.state, turning.counter) = (none, .transferring, 42)
      ∧ (turning.arm ⟨.p3, 40, 3⟩).2 = .armRefused .busy
      ∧ ((turning.closeContact true true).closed, (turning.closeContact true true).state) = (some .p2, .steady) := by
  decide +kernel

/-- Every reply carries the request's address and tag and the unit's serial (R109, R113): FIRE to a STEADY unit. -/
theorem test_unit_reply_carries_the_serial :
    let u : SelectorUnit := ⟨41388, some .p1, .steady, none, none, 41, false, false, false, 0⟩
    (u.handle ⟨3, 9, .fire, .context 1⟩).2 = .notArmedReply 4 9 41388 := by decide +kernel

/-! ### Chapter 7: section 7.9 -/

/-- A confirm poll on the target ends the transfer COMPLETED (200 ms). -/
theorem test_completed :
    let t := after (.pollReply 4 9 7 (report (some .p2) .steady 0 18)) (transferring (ctx .fired .op) .poll)
    (t.conn 3).recordedPhase = some .p2 ∧ (t.conn 3).settle = 600 ∧ (t.conn 3).transfersToday = 1
      ∧ (t.conn 3).motion = .idle ∧ t.log.records.map (·.outcome) = [.completed] ∧ t.transfers.fireSlot = none := by
  decide +kernel

/-- A FIRE that lapses is raised and sent once more (221 ms, 222 ms). -/
theorem test_fire_lapse :
    let t := after .lapse (transferring (ctx .armed .op) .fire)
    (t.conn 3).presence = .lapsing ∧ t.bus.outstanding = some ⟨3, 10, .fire, .context 1⟩
      ∧ t.transfers.first.map (·.fireRetried) = some true := by decide +kernel

/-- A confirm poll that shows FAULT with no phase ends the transfer FAULT_OPEN (429 ms). -/
theorem test_fault_open :
    let t := after (.pollReply 4 9 7 (report none .fault 0 18)) (transferring (ctx .fired .balancer) .poll)
    (t.conn 3).recordedPhase = none ∧ (t.conn 3).motion = .faulted ∧ (t.conn 3).faultCause = some .openContact
      ∧ t.alarms.op.transferFault = true := by decide +kernel

/-- NOT_ARMED is answered by one re-ARM (R139). -/
theorem test_re_arm :
    let t := after (.notArmedReply 4 9 7) (transferring (ctx .armed .op) .fire)
    t.transfers.fireSlot = none ∧ (t.conn 3).motion = .arming
      ∧ t.bus.outstanding = some ⟨3, 10, .arm .p2 40 3, .context 1⟩ := by decide +kernel

/-! ### Chapter 8: steps 2 and 4 of section 8.5 -/

def sagging : State :=
  { State.reset with
    metering := { State.reset.metering with
      phases := { State.reset.metering.phases with p3 := { PhaseState.initial with liveLow := true } } }
    alarms := State.reset.alarms.map fun _ => { AlarmSet.empty with phaseLow := true } }

theorem test_hold_raises_hold_changed :
    let t := after (.hold .pp []) sagging
    t.hold = ⟨false, true⟩ ∧ t.alarms.sp = { AlarmSet.empty with phaseLow := true, holdChanged := true } := by
  decide +kernel

theorem test_clear_keeps_live_level :
    (after (.clearAlarms .pp [0x50]) sagging).ports.pp.response = some [0xB0, 0x00, 0x10] := by decide +kernel

/-! ### Chapters 9 to 11 -/

/-- The published check value of the CRC with R167's parameters: that of the nine characters 123456789. -/
theorem test_crc_check_value : crc16 [0x31, 0x32, 0x33, 0x34, 0x35, 0x36, 0x37, 0x38, 0x39] = 0x29B1 := by decide +kernel

/-- By hand from R167: over the byte 0xFF every message bit equals the bit that leaves the register, so the register only
shifts, and ends 0xFF00. -/
theorem test_crc_of_FF : crc16 [0xFF] = 0xFF00 := by decide +kernel

/-- A dead interval of 47 ms is stored as 40, OK_CLAMPED (R133). -/
theorem test_dead_interval_rounds_down :
    (after (.writeSetting .op [23, 0, 0, 0, 47]) State.reset).ports.op.response
      = some [0xB8, 0x01, 0, 0, 0, 40] := by decide +kernel

/-- U_stop is kept below U_start (R71): with U_start 150 it takes at most 149. -/
theorem test_stop_threshold_below_start :
    (after (.writeSetting .op [12, 0, 0, 0, 200]) State.reset).settings.numeric.get SettingId.uStop.number = 149 := by
  decide +kernel

/-- READ_LOG from an overwritten record sets the gap flag (section 10.2.1, with a log of two records). -/
theorem test_read_log_gap :
    let r (n : Word) : LogRecord := ⟨n, 0, 3, some .p1, .p2, .op, none, none, .completed⟩
    ((after (.readLog .op [0, 0, 0, 1, 1]) { State.reset with log := ⟨[r 5, r 6], 7⟩ }).ports.op.response.map
      (·.take 8)) = some [0x87, 0x00, 1, 1, 0, 0, 0, 5] := by decide +kernel

theorem test_supply_lost_during_a_save : (after .supplyLost saving).image = none := by decide +kernel

theorem test_step_idles_on_an_empty_queue : step State.reset = .next State.reset := rfl

/-! ### States and operands that meet the statements' hypotheses -/

theorem ready_reset (p : Port) : Ready State.reset p := by cases p <;> exact ⟨rfl, rfl⟩

theorem ready_plant (p : Port) : Ready plant p := by cases p <;> exact ⟨rfl, rfl⟩

theorem test_meets_StepTakesTheFrontCommand :
    ({ State.reset with pending := [.lapse, .saveEnd] } : State).pending = .lapse :: [.saveEnd]
      ∧ State.reset.pending = [] := ⟨rfl, rfl⟩

theorem test_meets_ResetIsPowerOnWithABadImage : imageFound saving = none ∧ imageFound State.reset = none := ⟨rfl, rfl⟩

theorem test_meets_SupplyLostEndsOperation :
    State.reset.powered = true ∧ ({ State.reset with powered := false } : State).powered = false
      ∧ Instr.lapse ≠ .powerOn := ⟨rfl, rfl, by decide⟩

theorem test_meets_BadFramesAreCounted :
    State.reset.powered = true ∧ (State.reset.ports.get .op).rx = none
      ∧ (((0 : Byte).toNat = 0 ∨ 120 < (0 : Byte).toNat) ∧ ((121 : Byte).toNat = 0 ∨ 120 < (121 : Byte).toNat))
      ∧ (1 ≤ [(1 : Byte)].length ∧ [(1 : Byte)].length ≤ 120 ∧ crcOf (byteOf 1 :: [(1 : Byte)]) ≠ fromTwo 0 0)
      ∧ PartOfFrame [] ∧ PartOfFrame [1, 2, 3] ∧ PartOfFrame (120 :: List.replicate 121 0) :=
  ⟨rfl, rfl, by decide, by decide +kernel, trivial, by unfold PartOfFrame; decide, by unfold PartOfFrame; decide +kernel⟩

/-- A frame of length 1 with its payload byte and one CRC byte under assembly; and the first and the last partial record. -/
theorem test_meets_BadFramesAreCounted_assembling :
    let s : State := { State.reset with ports := State.reset.ports.set .op { State.reset.ports.op with rx := some [1, 7, 9] } }
    s.powered = true ∧ (s.ports.get .op).rx = some [1, 7, 9] ∧ PartOfFrame [1, 7, 9] ∧ (0x00 : Byte) ≠ 0x5A :=
  ⟨rfl, rfl, by unfold PartOfFrame; decide, by decide⟩

theorem test_meets_BadRecordsHaveNoEffect_assembling (got : List Byte) :
    let s : State := { State.reset with metering := { State.reset.metering with rx := some got } }
    s.powered = true ∧ s.metering.rx = some got ∧ ([] : List Byte).length < 22 ∧ (List.replicate 21 (0 : Byte)).length < 22
      ∧ (0x00 : Byte) ≠ 0x3C := ⟨rfl, rfl, by decide, by decide, by decide⟩

/-- A partial frame that stands under assembly is dropped and counted at the gap (R167). -/
theorem test_gap_drops_the_assembly :
    let t := after (.frameGapTimeout .op [])
      { State.reset with ports := State.reset.ports.set .op { State.reset.ports.op with rx := some [1] } }
    t.ports.op.rx = none ∧ t.ports.op.rejected = 1 := by decide +kernel

theorem test_meets_FrameBytesGiveThePayload :
    State.reset.powered = true ∧ (State.reset.ports.get .pp).rx = none
      ∧ 1 ≤ (List.replicate 120 (7 : Byte)).length ∧ (List.replicate 120 (7 : Byte)).length ≤ 120 :=
  ⟨rfl, rfl, by decide, by decide⟩

theorem test_meets_FrameDuringAResponseIsBuffered :
    responding.powered = true ∧ (responding.ports.get .op).response.isSome = true := ⟨rfl, rfl⟩

theorem test_meets_ResponseLeavesThenTheBufferIsTaken :
    responding.powered = true ∧ (responding.ports.get .op).response = some [0x81, 0]
      ∧ (responding.ports.get .op).buffered = none ∧ (responding.ports.get .op).rx = none := ⟨rfl, rfl, rfl, rfl⟩

/-- A buffered request, or a buffered RESTART that takes effect at once, while the next frame is under assembly. -/
theorem test_meets_ResponseLeavesThenTheBufferIsTaken_assembling (payload : List Byte) :
    let x : PortState :=
      { State.reset.ports.op with response := some [0x81, 0], buffered := some payload, rx := some [1] }
    let s : State := { State.reset with ports := State.reset.ports.set .op x }
    s.powered = true ∧ s.ports.get .op = x ∧ Port.op ≠ .pp ∧ s.restartDeferred = false ∧ ¬ RestartHeld s :=
  ⟨rfl, rfl, by decide, rfl, by rintro (h | ⟨k, y, h, -⟩) <;> [cases h; (cases k <;> cases h)]⟩

theorem test_meets_ChecksBeforeACommand :
    Ready State.reset .pp ∧ (∀ c, (codeAndLength c).1 ≠ 0x55) ∧ .pp ∉ portsOf .move ∧ .op ∈ portsOf .move
      ∧ ([] : List Byte).length ≠ (codeAndLength .move).2 :=
  ⟨ready_reset _, by intro c; cases c <;> decide, by decide, by decide, by decide⟩

theorem test_meets_IdentifyAndSettingReads :
    Ready State.reset .sp ∧ (28 : Byte).toNat = (settingRow .baudPp).number ∧ (0x87 : Byte).toNat = 128 + (7 : TriggerId).val
      ∧ (28 < (29 : Byte).toNat ∧ (29 : Byte).toNat < 128) ∧ 135 < (136 : Byte).toNat :=
  ⟨ready_reset _, by decide, by decide, by decide, by decide⟩

theorem test_meets_StatusShowsTheWholePart : Ready State.reset .op := ready_reset _

theorem test_meets_PhasesShowTheMeteringInput : Ready plant .pp := ready_plant _

theorem test_meets_ConnectionReadsShowTheRecords :
    Ready plant .op ∧ (63 : Byte).toNat = (63 : ConnId).val ∧ 64 ≤ (64 : Byte).toNat :=
  ⟨ready_plant _, by decide, by decide⟩

theorem test_meets_QueueReadShowsTheOrders :
    Ready plant .sp ∧ (15 : Byte).toNat ≤ 15 ∧ 15 < (16 : Byte).toNat := ⟨ready_plant _, by decide, by decide⟩

theorem test_meets_LogReadFollowsThePosition :
    Ready State.reset .op ∧ State.reset.log.records.length ≤ 64 ∧ ((0 : Byte).toNat = 0 ∧ 8 < (9 : Byte).toNat)
      ∧ (1 ≤ (8 : Byte).toNat ∧ (8 : Byte).toNat ≤ 8) :=
  ⟨ready_reset _, by decide, by decide, by decide⟩

theorem test_meets_MoveChecksInOrder :
    Ready plant .sp ∧ Port.sp ≠ .pp ∧ 64 ≤ (64 : Byte).toNat ∧ (3 : Byte).toNat = (3 : ConnId).val
      ∧ (moveChecks plant .sp 3 1 4).find? (·.1) = some (true, 0x21)
      ∧ (moveChecks plant .sp 63 1 4).find? (·.1) = some (true, 0x20) :=
  ⟨ready_plant _, by decide, by decide, by decide, by decide +kernel, by decide +kernel⟩

/-- Sixteen queued orders, the last of them the balancer's. -/
def full : State :=
  { plant with
    queue :=
      ⟨(List.finRange 16).map fun i => order ⟨i.val + 20, by omega⟩ .p2 (if i = 15 then .balancer else .op) 0, 16⟩ }

/-- A first order, a replaced one, and a full queue that gives up its balancer order. -/
theorem test_meets_MoveIsAdmitted :
    Ready plant .op ∧ Port.op ≠ .pp ∧ (3 : Byte).toNat = (3 : ConnId).val ∧ phaseNamed 2 = some .p2
      ∧ ((moveChecks plant .op 3 2 15).find? (·.1) = none ∧ OneOrderEach plant)
      ∧ ((moveChecks (queued [order 3 .p3 .op 1]) .op 3 2 15).find? (·.1) = none
          ∧ OneOrderEach (queued [order 3 .p3 .op 1]))
      ∧ ((moveChecks full .op 3 2 15).find? (·.1) = none ∧ OneOrderEach full
          ∧ ¬ full.queue.orders.length + full.unfiredContexts < 16) := by
  refine ⟨ready_plant _, by decide, by decide, by decide, ⟨by decide +kernel, ?_⟩, ⟨by decide +kernel, ?_⟩,
    by decide +kernel, ?_, by decide +kernel⟩ <;> unfold OneOrderEach <;> decide +kernel

/-- A queued order, an order in a context, no order, and a request from PP. -/
theorem test_meets_CancelRemovesTheOrder :
    Ready plant .op ∧ Port.op ≠ .pp ∧ 64 ≤ (64 : Byte).toNat ∧ (3 : Byte).toNat = (3 : ConnId).val
      ∧ ((queued [order 3 .p2 .sp 1]).queue.orders.find? fun o => o.conn == 3) = some (order 3 .p2 .sp 1)
      ∧ ((transferring (ctx .fired .op) .poll).conn 3).motion = .fired ∧ Ready plant .pp :=
  ⟨ready_plant _, by decide, by decide, by decide, by decide +kernel, by decide +kernel, ready_plant _⟩

theorem test_meets_ReprioritizeChangesThePriority :
    Ready (queued [order 3 .p2 .op 1]) .sp ∧ Port.sp ≠ .pp ∧ 15 < (16 : Byte).toNat
      ∧ ((queued [order 3 .p2 .op 1]).queue.orders.any fun o => o.conn == 3) = true :=
  ⟨⟨rfl, rfl⟩, by decide, by decide, rfl⟩

theorem test_meets_DispatchTakesTheHighest :
    let s := queued [order 3 .p2 .op 1]
    s.freeContext = some .first ∧ s.bestOrder = some (order 3 .p2 .op 1) ∧ s.hold = ⟨false, false⟩
      ∧ s.restartDeferred = false := by decide +kernel

/-- An ARMED context waits while the fire slot is free. -/
theorem test_meets_DispatchTakesTheHighest_slot :
    let s : State := { plant with transfers := ⟨some (ctx .armed .op), none, none, 2⟩ }
    s.transfers.fireSlot = none ∧ s.hold = ⟨false, false⟩ ∧ s.restartDeferred = false
      ∧ s.context .first = some (ctx .armed .op) ∧ (ctx .armed .op).state = .armed
      ∧ ∀ j y, s.context j = some y → y.state = .armed → j = .first ∨ 1 < y.dispatchNumber := by
  refine ⟨rfl, rfl, rfl, rfl, rfl, ?_⟩
  intro j y h _
  cases j
  · exact .inl rfl
  · cases h

theorem test_meets_PinJoinsAndWithdraws : Ready plant .pp ∧ (3 : Byte).toNat = (3 : ConnId).val :=
  ⟨ready_plant _, by decide⟩

theorem test_meets_UnpinRemovesOwnPin : Ready plant .sp ∧ 64 ≤ (64 : Byte).toNat ∧ (5 : Byte).toNat = (5 : ConnId).val :=
  ⟨ready_plant _, by decide, by decide⟩

theorem test_one_order_in_all (r : BusRequest) : OneOrderInAll (transferring (ctx .arming .op) r) := by
  show ([3] : List ConnId).Nodup
  decide

theorem test_meets_HoldStopsUnfiredTransfers :
    let s := transferring (ctx .arming .op) (.arm .p2 40 3)
    Ready s .op ∧ Port.op ≠ .sp ∧ s.hold = ⟨false, false⟩ ∧ OneOrderInAll s
      ∧ ({ plant with hold := ⟨false, true⟩ } : State).hold ≠ ⟨false, false⟩ :=
  ⟨⟨rfl, rfl⟩, by decide, rfl, test_one_order_in_all _, by decide⟩

theorem test_meets_ReleaseEndsTheHold :
    let s : State := { plant with hold := ⟨true, false⟩ }
    Ready s .op ∧ s.hold ≠ ⟨false, false⟩ ∧ holdWith s.hold .op false = ⟨false, false⟩
      ∧ holdWith s.hold .pp false ≠ ⟨false, false⟩ :=
  ⟨⟨rfl, rfl⟩, by decide, rfl, by decide⟩

theorem test_meets_AlarmRequestsTouchOnePort : Ready sagging .pp := ⟨rfl, rfl⟩

theorem test_meets_PauseIsOneFlag : Ready plant .op ∧ Port.op ≠ .pp := ⟨ready_plant _, by decide⟩

theorem test_meets_ClearFaultNeedsAGoodReport :
    Ready plant .sp ∧ Port.sp ≠ .pp ∧ (63 : Byte).toNat = (63 : ConnId).val := ⟨ready_plant _, by decide, by decide⟩

theorem test_meets_SurveyStartsOneRound : Ready plant .op ∧ Port.op ≠ .pp := ⟨ready_plant _, by decide⟩

theorem test_meets_SettingIsStored :
    Ready plant .op ∧ Port.op ≠ .pp ∧ 28 < (29 : Byte).toNat ∧ (28 : Byte).toNat = (settingRow .baudPp).number
      ∧ storedValue plant.settings .baudPp 1 = none ∧ storedValue plant.settings .uStop 150 = some 149 :=
  ⟨ready_plant _, by decide, by decide, by decide, by decide +kernel, by decide +kernel⟩

theorem test_meets_ConnectionIsConfigured :
    Ready plant .op ∧ (63 : Byte).toNat = (63 : ConnId).val ∧ 3 < (4 : Byte).toNat ∧ kindCode .movable = 1
      ∧ phasesCode ⟨true, true, false⟩ = 3 ∧ (⟨true, true, false⟩ : PhaseSet) ≠ ⟨false, false, false⟩
      ∧ 2 ≤ phaseCount ⟨true, true, false⟩ :=
  ⟨ready_plant _, by decide, by decide, by decide, by decide, by decide, by decide⟩

theorem test_meets_TriggerIsConfigured :
    Ready plant .op ∧ 8 ≤ (8 : Byte).toNat ∧ (7 : Byte).toNat = (7 : TriggerId).val ∧ quantityCode .unbalance = 4
      ∧ comparisonCode .below = 1 ∧ phasesCode ⟨false, false, false⟩ = 0 :=
  ⟨ready_plant _, by decide, by decide, by decide, by decide, by decide⟩

theorem test_meets_TimeIsReplaced : Ready plant .op := ready_plant _

/-- No context is in flight and no save runs: a deferred restart takes effect. -/
theorem test_nothing_holds_a_restart : ¬ RestartHeld { State.reset with restartDeferred := true } := by
  rintro (h | ⟨k, x, h, -⟩)
  · cases h
  · cases k <;> cases h

/-- A save and a FIRED transfer both hold a deferred restart; the end of the save leaves the transfer. -/
def saveAndTransfer : State :=
  { transferring (ctx .fired .op) .poll with restartDeferred := true, saving := some Settings.defaults }

theorem test_meets_SavesKeepACopy :
    (Ready plant .op ∧ Port.op ≠ .pp ∧ saving.powered = true ∧ saving.saving = some Settings.defaults
        ∧ saving.restartDeferred = false)
      ∧ (saveAndTransfer.powered = true ∧ saveAndTransfer.saving = some Settings.defaults
        ∧ RestartHeld { saveAndTransfer with image := some Settings.defaults, saving := none })
      ∧ let s : State := { saving with restartDeferred := true }
        s.saving = some Settings.defaults ∧ ¬ RestartHeld { s with image := some Settings.defaults, saving := none } :=
  ⟨⟨ready_plant _, by decide, rfl, rfl, rfl⟩, ⟨rfl, rfl, .inr ⟨.first, _, rfl, .inl rfl⟩⟩, rfl,
    test_nothing_holds_a_restart⟩

theorem test_meets_RestartIsDeferred :
    (Ready saving .op ∧ saving.restartDeferred = false ∧ RestartHeld saving)
      ∧ (Ready (transferring (ctx .arming .op) .poll) .op ∧ OneOrderInAll (transferring (ctx .arming .op) .poll))
      ∧ Ready State.reset .op ∧ State.reset.restartDeferred = false ∧ ¬ RestartHeld State.reset :=
  ⟨⟨⟨rfl, rfl⟩, rfl, .inl rfl⟩, ⟨⟨rfl, rfl⟩, test_one_order_in_all _⟩, ready_reset _, rfl, test_nothing_holds_a_restart⟩

theorem test_meets_RestartReloads :
    let s : State := { State.reset with restartDeferred := true }
    (s.powered = true ∧ s.restartDeferred = true ∧ ¬ RestartHeld s)
      ∧ TransferTail s s.finishTransfer ∧ RestartHeld saveAndTransfer :=
  ⟨⟨rfl, rfl, test_nothing_holds_a_restart⟩, rfl, .inl rfl⟩

theorem test_meets_WindowUpdatesTheMeteringInput : plant.powered = true := rfl

theorem test_meets_StalenessKeepsTheFigures :
    State.reset.powered = true ∧ State.reset.metering.staleTimer ≠ none
      ∧ ({ State.reset.metering with staleTimer := none } : Metering).staleTimer = none := ⟨rfl, by decide, rfl⟩

theorem test_meets_QuietEndsInWatch :
    let s : State := { plant with engine := { plant.engine with state := .quiet, quietCount := 1 } }
    s.powered = true ∧ s.engine.state = .quiet ∧ s.engine.pendingTrigger = none := ⟨rfl, rfl, rfl⟩

/-- A pending trigger's pass runs while no order is queued, and is deferred behind a queued order of priority 1. -/
theorem test_meets_QuietEndsInWatch_pending (os : List Order) :
    let s : State := { queued os with
      engine := { plant.engine with state := .quiet, quietCount := 1, pendingTrigger := some 2 } }
    s.powered = true ∧ s.engine.state = .quiet ∧ s.engine.pendingTrigger = some 2 ∧ s.queue.orders = os
      ∧ s.context .first = none ∧ s.context .second = none := ⟨rfl, rfl, rfl, rfl, rfl, rfl⟩

theorem test_meets_BadRecordsHaveNoEffect :
    State.reset.powered = true ∧ State.reset.metering.rx = none ∧ (List.replicate 20 (0 : Byte)).length = 20
      ∧ crcOf (List.replicate 20 0) ≠ fromTwo 0 0 ∧ (List.replicate 21 (0 : Byte)).length < 22 :=
  ⟨rfl, rfl, by decide, by decide +kernel, by decide⟩

theorem test_meets_RecordBytesGiveTheWindow :
    State.reset.powered = true ∧ State.reset.metering.rx = none ∧ (0xFD : Byte).getLsbD 0 = true
      ∧ (0xFD : Byte).getLsbD 1 = false ∧ (0xFD : Byte).getLsbD 2 = true := ⟨rfl, rfl, rfl, rfl, rfl⟩

theorem test_meets_PlanKeepsItsLimits :
    Phase.p2 ≠ .p1
      ∧ choose ⟨9200, 50, 20, noPhase, noPhase⟩ [⟨5, 800, .p1, every, 0⟩] ⟨3000, 1000, 1000⟩ []
        = some ⟨⟨5, 800, .p1, every, 0⟩, .p2⟩ := by decide +kernel

/-- A request of each kind whose connection has been made UNUSED since. -/
def unusedSince (r : BusRequest) : State := { State.reset with bus := (asking r .routine).bus }

theorem test_meets_FramesThatAnswerNothing :
    State.reset.powered = true ∧ State.reset.bus.outstanding = none
      ∧ (asking .poll .routine).bus.outstanding = some ⟨3, 9, .poll, .routine⟩ ∧ (5 : Byte).toNat ≠ (3 : ConnId).val + 1
      ∧ (asking .fire .disarmSlot).bus.outstanding = some ⟨3, 9, .fire, .disarmSlot⟩ ∧ BusRequest.fire ≠ .poll
      ∧ (0x5A : Byte) ≠ 0xC3 ∧ crcOf [4, 9, 0x88, 0, 0, 0, 7] ≠ fromTwo 0 0 ∧ ([0xC3] : List Byte).length < 10
      ∧ (0x80 : Byte).toNat < 0x81 ∧ 0x88 < (0x89 : Byte).toNat ∧ ([] : List Byte).length ≠ 4
      ∧ 3 < (4 : Byte).toNat :=
  ⟨rfl, rfl, rfl, by decide, rfl, by decide, by decide, by decide +kernel, by decide, by decide, by decide, by decide, by decide⟩

theorem test_meets_FramesThatAnswerNothing_unused (r : BusRequest) :
    (unusedSince r).powered = true ∧ (unusedSince r).bus.outstanding = some ⟨3, 9, r, .routine⟩
      ∧ ((unusedSince r).config 3).kind = .unused :=
  ⟨rfl, rfl, (by decide +kernel : (State.reset.config 3).kind = .unused)⟩

theorem test_meets_BusFrameBytesGiveTheReply : State.reset.powered = true := rfl

/-- The presence machine recognises connection 3's own serial and takes another for a mismatch. -/
theorem test_recognised :
    recognised (asking .poll .routine) 3 7 = some (unit .p1) ∧ recognised (asking .poll .routine) 3 8 = none := by
  decide +kernel

theorem test_raised_by_no_context (r : BusRequest) :
    RaisedByNoContext (asking r .routine) ⟨3, 9, r, .routine⟩ := by intro n h; cases h

theorem test_meets_PollReplyIsTaken :
    let s := asking .poll .routine
    let o : Outstanding := ⟨3, 9, .poll, .routine⟩
    s.powered = true ∧ s.bus.outstanding = some o ∧ o.request = .poll ∧ RaisedByNoContext s o
      ∧ (s.config o.conn).kind ≠ .unused ∧ recognised s o.conn 7 = some (unit .p1) :=
  ⟨rfl, rfl, rfl, test_raised_by_no_context _, by decide +kernel, test_recognised.1⟩

/-- A request of each kind, one that a released context raised: connection 3's own serial is recognised, another not. -/
theorem test_meets_RepliesFeedPresence (r : BusRequest) :
    let s := asking r (.context 5)
    let o : Outstanding := ⟨3, 9, r, .context 5⟩
    s.powered = true ∧ s.bus.outstanding = some o ∧ RaisedByNoContext s o ∧ (s.config o.conn).kind ≠ .unused
      ∧ recognised s o.conn 7 = some (unit .p1) ∧ recognised s o.conn 8 = none := by
  refine ⟨rfl, rfl, ?_, (by decide +kernel : (plant.config 3).kind ≠ .unused), test_recognised.1, test_recognised.2⟩
  intro n _
  rfl

/-- A transfer in flight raised the outstanding request for its own connection. -/
theorem test_raised_by (x : Context) (hn : x.dispatchNumber = 1) (hc : x.order.conn = 3) (r : BusRequest) :
    RaisedBy (transferring x r) ⟨3, 9, r, .context 1⟩ .first x := by
  refine ⟨by rw [hn], ?_, hc.symm⟩
  simp [State.contextNumbered, State.inFlight, State.context, Transfers.get, transferring]

theorem test_meets_ConfirmPollDecides :
    let s := transferring (ctx .fired .op) .poll
    let o : Outstanding := ⟨3, 9, .poll, .context 1⟩
    s.powered = true ∧ s.bus.outstanding = some o ∧ o.request = .poll ∧ RaisedBy s o .first (ctx .fired .op)
      ∧ (s.config o.conn).kind ≠ .unused ∧ (s.conn o.conn).motion = .fired :=
  ⟨rfl, rfl, rfl, test_raised_by _ rfl rfl _, by decide +kernel, by decide +kernel⟩

theorem test_meets_ArmReplies :
    let s := transferring (ctx .arming .op) (.arm .p2 40 3)
    let o : Outstanding := ⟨3, 9, .arm .p2 40 3, .context 1⟩
    s.powered = true ∧ s.bus.outstanding = some o ∧ o.request = .arm .p2 40 3 ∧ RaisedBy s o .first (ctx .arming .op)
      ∧ (s.config o.conn).kind ≠ .unused ∧ s.transfers.fireSlot = none ∧ s.hold = ⟨false, false⟩
      ∧ s.restartDeferred = false ∧ recognised s o.conn 7 ≠ none ∧ recognised s o.conn 8 = none :=
  ⟨rfl, rfl, rfl, test_raised_by _ rfl rfl _, by decide +kernel, rfl, rfl, rfl, by decide +kernel, by decide +kernel⟩

theorem test_meets_FireReplies :
    let s := transferring (ctx .armed .op) .fire
    let o : Outstanding := ⟨3, 9, .fire, .context 1⟩
    s.powered = true ∧ s.bus.outstanding = some o ∧ o.request = .fire ∧ RaisedBy s o .first (ctx .armed .op)
      ∧ (s.config o.conn).kind ≠ .unused ∧ s.queue.orders.all (fun q => q.conn != o.conn) = true :=
  ⟨rfl, rfl, rfl, test_raised_by _ rfl rfl _, by decide +kernel, rfl⟩

theorem test_meets_LapsesFeedPresence :
    let s := asking .poll .routine
    let o : Outstanding := ⟨3, 9, .poll, .routine⟩
    s.powered = true ∧ s.bus.outstanding = some o ∧ (RaisedByNoContext s o ∨ o.request = .poll)
      ∧ State.reset.bus.outstanding = none :=
  ⟨rfl, rfl, .inr rfl, rfl⟩

theorem test_meets_LapsesOfArmAndFire :
    let s := transferring (ctx .armed .op) .fire
    let o : Outstanding := ⟨3, 9, .fire, .context 1⟩
    s.powered = true ∧ s.bus.outstanding = some o ∧ RaisedBy s o .first (ctx .armed .op)
      ∧ (s.config o.conn).kind ≠ .unused ∧ o.request = .fire :=
  ⟨rfl, rfl, test_raised_by _ rfl rfl _, by decide +kernel, rfl⟩

theorem test_meets_LapsesOfArmAndFire_arm :
    let s := transferring (ctx .arming .op) (.arm .p2 40 3)
    let o : Outstanding := ⟨3, 9, .arm .p2 40 3, .context 1⟩
    s.bus.outstanding = some o ∧ RaisedBy s o .first (ctx .arming .op) := ⟨rfl, test_raised_by _ rfl rfl _⟩

/-- The routine poll is dropped for want of a member while a survey waits for connection 3, or waits for nobody. -/
theorem test_meets_ArbiterGrantsByClass_survey :
    let c (p : Presence) : Connection := { Connection.initial with presence := p }
    let s : State := { State.reset with
      settings := { Settings.defaults with conns := Settings.defaults.conns.set 3 movable }
      conns := State.reset.conns.set 3 (c .absent)
      bus := { State.reset.bus with routineSlot := true, surveySlot := true, surveyRunning := true, surveyList := [2, 3] } }
    s.bus.outstanding = none ∧ (∀ d, ¬ Rotates s d) ∧ StillSurveyed s 3 ∧ ¬ StillSurveyed s 2
      ∧ s.bus.surveyList = [2] ++ 3 :: [] := by
  unfold Rotates StillSurveyed
  decide +kernel

/-- A class of each kind waits: FIRE, a release disarm, and the routine poll of connection 3. -/
theorem test_meets_ArbiterGrantsByClass :
    State.reset.bus.outstanding = none
      ∧ Waits { plant with transfers := ⟨some { ctx .armed .op with slot := some .fire }, none, some .first, 2⟩ } .fire
          .first { ctx .armed .op with slot := some .fire }
      ∧ (plant.raiseRelease 3 1).bus.disarmSlots.get 3 = some (.release 1)
      ∧ Rotates plant 3 := by
  refine ⟨rfl, ⟨rfl, rfl⟩, by decide +kernel, ?_⟩
  unfold Rotates
  decide +kernel

theorem test_meets_BusTimersRaisePolls : plant.powered = true := rfl

theorem test_meets_OneSecondPasses :
    plant.powered = true ∧ OneOrderEach (queued [order 3 .p2 .op 1, order 5 .p1 .sp 1]) := by
  refine ⟨rfl, ?_⟩
  unfold OneOrderEach
  decide +kernel

theorem test_meets_CountsRunOut :
    plant.powered = true ∧ (plant.conn 3).presence ≠ .arriving ∧ (plant.conn 3).settle = 0
      ∧ 0 < ((plant.modConn 3 fun x => { x with settle := 1 }).conn 3).settle
      ∧ ((plant.modConn 3 fun x => { x with presence := .arriving, arrivalHold := 1 }).conn 3).presence = .arriving := by
  decide +kernel

theorem test_meets_ContextTimersExpire :
    (plant.powered = true ∧ plant.context .second = none)
      ∧ (let x := { ctx .armed .op with armDeadline := some 3 }
         let s : State := { plant with transfers := ⟨some x, none, some .second, 2⟩ }
         s.context .first = some x ∧ x.state = .armed ∧ s.transfers.fireSlot ≠ some .first ∧ x.armDeadline ≠ none
          ∧ s.queue.orders.all (fun o => o.conn != 3) = true)
      ∧ (let x := { ctx .fired .op with confirmTimer := some 100, confirmDeadline := some 2000 }
         let s := transferring x .poll
         s.context .first = some x ∧ x.state = .fired ∧ x.confirmTimer ≠ none ∧ x.confirmDeadline ≠ none) :=
  ⟨⟨rfl, rfl⟩, ⟨rfl, rfl, by decide, by decide, rfl⟩, rfl, rfl, by decide, by decide⟩

/-- A state with a command waiting, which the four invariants hold of. -/
def waiting : State := { State.reset with pending := [.lapse] }

theorem test_waiting_steps : step waiting = .next State.reset := rfl

theorem test_meets_EveryStepKeepsTheLines : LinesFollow waiting ∧ step waiting = .next State.reset :=
  ⟨lines_iff _ (by decide +kernel), rfl⟩

theorem test_meets_EveryStepKeepsTheLog : LogConsecutive waiting ∧ step waiting = .next State.reset :=
  ⟨⟨by decide, fun i => i.elim0⟩, rfl⟩

theorem test_meets_EveryStepKeepsTheSettings : AllSettingsSound waiting ∧ step waiting = .next State.reset := by
  refine ⟨⟨⟨?_, by decide +kernel, by decide +kernel, by decide +kernel, by decide +kernel⟩, fun _ h => (by cases h),
    fun _ h => (by cases h)⟩, rfl⟩
  intro id
  cases id <;> first | (show (_ : Nat) ≤ _ ∧ (_ : Nat) ≤ _; decide +kernel) | (show _ ∈ _; decide +kernel)

theorem test_meets_EveryStepKeepsTheOrders : OrdersSound waiting ∧ step waiting = .next State.reset := by
  refine ⟨⟨by decide, by decide, fun _ h => (by cases h), ?_, fun _ _ h => (by cases h), fun _ _ h => (by cases h)⟩, rfl⟩
  intro k x h
  cases k <;> cases h

end Sys2Proof.Tests
end

/-!
PROOFS. The parts that every step is made of: what a property of states must survive to be an invariant.
-/

namespace Sys2Proof.Machine

/-! ### How a step is made up

Every step is one of a few things: a frame, a record or a reply that is taken in, a lapse, or an event of the part's
own. -/

/-- What a property of states must survive to survive every step: the taking in of frames and records, each request's
effect and the restart after its response, a window, a reply and a lapse, and the events of the part's own. -/
structure Survives (P : State → Prop) : Prop where
  pending : ∀ s x, P s → P (s.withPending x)
  setPort : ∀ s p x, P s → P (s.setPort p x)
  setRx : ∀ s x, P s → P (s.withMetering { s.metering with rx := x })
  serve : ∀ c p params s, params.length = c.paramBytes → P s → P (serve c p params s).state
  finishTransfer : ∀ s, P s → P s.finishTransfer
  acceptWindow : ∀ s r, P s → P (s.acceptWindow r)
  goodReply : ∀ s o serial r, P s → s.bus.outstanding = some o → r.answers o.request = true → P (s.goodReply o serial r)
  lapseOutstanding : ∀ s o, P s → s.bus.outstanding = some o → P (s.lapseOutstanding o)
  powerOn : ∀ s t, P s → exec .powerOn s = .next t → P t
  supplyLost : ∀ s t, P s → exec .supplyLost s = .next t → P t
  oneSecond : ∀ s t, P s → exec .oneSecondEvent s = .next t → P t
  saveEnd : ∀ s t, P s → exec .saveEnd s = .next t → P t
  restart : ∀ s t, P s → exec .restartTakesEffect s = .next t → P t
  quietCount : ∀ s t, P s → exec .quietCountExpiry s = .next t → P t
  staleness : ∀ s t, P s → exec .stalenessExpiry s = .next t → P t
  routineSpacing : ∀ s t, P s → exec .routineSpacingExpiry s = .next t → P t
  surveyTimer : ∀ s t, P s → exec .surveyTimerExpiry s = .next t → P t
  arrivalHold : ∀ c s t, P s → exec (.arrivalHoldExpiry c) s = .next t → P t
  settle : ∀ c s t, P s → exec (.settleExpiry c) s = .next t → P t
  expired : ∀ c s t, P s → exec (.expired c) s = .next t → P t
  armDeadline : ∀ k s t, P s → exec (.armDeadlineExpiry k) s = .next t → P t
  confirmTimer : ∀ k s t, P s → exec (.confirmTimerExpiry k) s = .next t → P t
  confirmDeadline : ∀ k s t, P s → exec (.confirmDeadlineExpiry k) s = .next t → P t

section
variable {P : State → Prop}

/-- What a command does while supply is applied; without supply, nothing. -/
theorem whilePowered_keeps {s u t : State} (hs : P s) (hu : P u) (h : s.whilePowered u = .next t) : P t := by
  unfold State.whilePowered at h
  injection h with h
  subst h
  split
  · exact hu
  · exact hs

/-- A fold of operations that each keep a property keeps it. -/
theorem foldl_keeps_prop {α : Type} {f : State → α → State} (hf : ∀ s a, P s → P (f s a)) (l : List α) {s : State}
    (hs : P s) : P (l.foldl f s) := by
  induction l generalizing s with
  | nil => exact hs
  | cons a l ih => exact ih (hf s a hs)

theorem Survives.takeRequest (K : Survives P) {s : State} (hs : P s) (p : Port) (code : Byte) (params : List Byte) :
    P (s.takeRequest p code params) := by
  have answer : ∀ u status data, P u → P (u.respond p code status data) := fun u _ _ hu => K.setPort u p _ hu
  unfold State.takeRequest
  split
  · exact answer s _ _ hs
  · next c _ =>
    split
    · exact answer s _ _ hs
    · split
      · exact answer s _ _ hs
      · next fits =>
        have served := answer _ (Machine.serve c p params s).status (Machine.serve c p params s).data
          (K.serve c p params s (not_not.mp fits) hs)
        unfold State.afterResponse
        dsimp only
        split
        · exact K.finishTransfer _ served
        · exact served

theorem Survives.goodFrame (K : Survives P) {s : State} (hs : P s) (p : Port) (payload : List Byte) :
    P (s.goodFrame p payload) := by
  unfold State.goodFrame
  dsimp only
  split
  · split
    · exact K.takeRequest hs p _ _
    · exact hs
  · exact K.setPort s p _ hs
  · exact K.setPort s p _ hs

theorem Survives.receivedFrame (K : Survives P) {s : State} (hs : P s) (p : Port) (x : PortState)
    (payload : List Byte) : P ((s.setPort p x).goodFrame p payload) :=
  K.goodFrame (K.setPort s p _ hs) p payload

theorem Survives.portBytes (K : Survives P) {s : State} (hs : P s) (p : Port) (bs : List Byte) :
    P (s.portBytes p bs) := by
  refine foldl_keeps_prop (fun u b hu => ?_) bs hs
  have got := fun x => K.setPort u p x hu
  unfold State.portByte
  dsimp only
  split
  · exact got _
  · exact K.setPort _ p _ (got _)
  · exact K.goodFrame (got _) p _

theorem Survives.portGap (K : Survives P) {s : State} (hs : P s) (p : Port) : P (s.portGap p) := by
  unfold State.portGap
  split
  · exact K.setPort _ p _ (K.setPort s p _ hs)
  · exact hs

theorem Survives.responseLeaves (K : Survives P) {s : State} (hs : P s) (p : Port) : P (s.responseLeaves p) := by
  unfold State.responseLeaves
  dsimp only
  split
  · exact hs
  · split
    · exact K.takeRequest (K.setPort s p _ hs) p _ _
    · exact K.setPort s p _ hs

theorem Survives.meteringBytes (K : Survives P) {s : State} (hs : P s) (bs : List Byte) : P (s.meteringBytes bs) := by
  refine foldl_keeps_prop (fun u b hu => ?_) bs hs
  unfold State.meteringByte
  dsimp only
  split
  · exact K.acceptWindow _ _ (K.setRx u _ hu)
  · exact K.setRx u _ hu

theorem Survives.busReply (K : Survives P) {s : State} (hs : P s) (address tag : Byte) (serial : Word) (r : Reply) :
    P (s.busReply address tag serial r) := by
  unfold State.busReply
  split
  · exact hs
  · next o ho =>
    split
    · next answered =>
      simp only [Outstanding.answeredBy, Bool.and_eq_true] at answered
      exact K.goodReply s o serial r hs ho answered.2
    · exact hs

/-- A property that survives the parts of every step is kept by every command. -/
theorem Survives.exec (K : Survives P) (c : Instr) {s t : State} (hs : P s) (h : Machine.exec c s = .next t) : P t := by
  have frame : ∀ {p payload},
      s.whilePowered ((s.setPort p { s.port p with rx := none }).goodFrame p payload) = .next t → P t := whilePowered_keeps hs (K.receivedFrame hs _ _ _)
  have reply : ∀ {address tag serial r}, s.whilePowered (s.busReply address tag serial r) = .next t → P t :=
    whilePowered_keeps hs (K.busReply hs _ _ _ _)
  cases c with
  | powerOn => exact K.powerOn s t hs h
  | supplyLost => exact K.supplyLost s t hs h
  | oneSecondEvent => exact K.oneSecond s t hs h
  | saveEnd => exact K.saveEnd s t hs h
  | restartTakesEffect => exact K.restart s t hs h
  | quietCountExpiry => exact K.quietCount s t hs h
  | stalenessExpiry => exact K.staleness s t hs h
  | routineSpacingExpiry => exact K.routineSpacing s t hs h
  | surveyTimerExpiry => exact K.surveyTimer s t hs h
  | arrivalHoldExpiry c => exact K.arrivalHold c s t hs h
  | settleExpiry c => exact K.settle c s t hs h
  | expired c => exact K.expired c s t hs h
  | armDeadlineExpiry k => exact K.armDeadline k s t hs h
  | confirmTimerExpiry k => exact K.confirmTimer k s t hs h
  | confirmDeadlineExpiry k => exact K.confirmDeadline k s t hs h
  | frameGapTimeout p bs => exact whilePowered_keeps hs (K.portGap (K.portBytes hs p bs) p) h
  | rejectedFrame p bs => exact whilePowered_keeps hs (K.portBytes hs p bs) h
  | responseTransmitted p => exact whilePowered_keeps hs (K.responseLeaves hs p) h
  | acceptedWindow r => exact whilePowered_keeps hs (K.acceptWindow _ r (K.setRx s none hs)) h
  | meteringRecordDropped bs => exact whilePowered_keeps hs (K.meteringBytes hs bs) h
  | meteringByteGap bs => exact whilePowered_keeps hs (K.setRx _ none (K.meteringBytes hs bs)) h
  | pollReply _ _ _ _ => exact reply h
  | armedReply _ _ _ => exact reply h
  | armRefused _ _ _ _ => exact reply h
  | firingReply _ _ _ => exact reply h
  | notArmedReply _ _ _ => exact reply h
  | idleReply _ _ _ => exact reply h
  | busFrameDiscarded bytes =>
    simp only [Machine.exec, execBusFrameDiscarded] at h
    split at h
    · injection h with h; exact h ▸ hs
    · exact reply h
  | lapse =>
    simp only [Machine.exec, execLapse] at h
    split at h
    · injection h with h; exact h ▸ hs
    · next o ho => exact whilePowered_keeps hs (K.lapseOutstanding s o hs ho) h
  | frameBuffered _ _ | unknownCommand _ _ _ | identify _ _ | readStatus _ _ | readPhases _ _ | readConnection _ _
  | readTable _ _ | readQueue _ _ | readLog _ _ | readSetting _ _ | move _ _ | cancel _ _ | reprioritize _ _ | pin _ _
  | unpin _ _ | unpinAll _ _ | hold _ _ | release _ _ | pauseBalancer _ _ | resumeBalancer _ _ | clearFault _ _
  | survey _ _ | clearAlarms _ _ | setAlarmMask _ _ | writeSetting _ _ | writeConnection _ _ | writeTrigger _ _
  | saveSettings _ _ | restart _ _ | setTime _ _ => exact frame h

/-- A property that survives the parts of every step is kept by every step. -/
theorem Survives.step (K : Survives P) {s t : State} (hs : P s) (h : Machine.step s = .next t) : P t := by
  unfold Machine.step at h
  split at h
  · injection h with h; exact h ▸ hs
  · next c rest _ => exact K.exec c (K.pending s rest hs) h

end

/-- A request of the right length comes to its command's meaning: a property of all of these is one of every such
answer. -/
theorem serve_cases {Q : Answer → Prop} {p : Port} {s : State}
    (identify : Q (serveIdentify p s)) (readStatus : Q (serveReadStatus p s)) (readPhases : Q (serveReadPhases s))
    (readConnection : ∀ n, Q (serveReadConnection n s)) (readTable : ∀ n, Q (serveReadTable n s))
    (readQueue : ∀ n, Q (serveReadQueue n s)) (readLog : ∀ start n, Q (serveReadLog start n s))
    (readSetting : ∀ n, Q (serveReadSetting n s))
    (move : ∀ n target priority life, Q (serveMove p n target priority life s)) (cancel : ∀ n, Q (serveCancel n s))
    (reprioritize : ∀ n priority, Q (serveReprioritize n priority s)) (pin : ∀ n, Q (servePin p n s))
    (unpin : ∀ n, Q (serveUnpin p n s)) (unpinAll : Q (serveUnpinAll p s)) (hold : Q (serveHold p s))
    (release : Q (serveRelease p s)) (pause : Q (servePause s)) (resume : Q (serveResume s))
    (clearFault : ∀ n, Q (serveClearFault n s)) (survey : Q (serveSurvey s))
    (clearAlarms : ∀ named, Q (serveClearAlarms p named s)) (setAlarmMask : ∀ mask, Q (serveSetAlarmMask p mask s))
    (writeSetting : ∀ n value, Q (serveWriteSetting n value s))
    (writeConnection : ∀ n kind allowed serial, Q (serveWriteConnection n kind allowed serial s))
    (writeTrigger : ∀ n enabled phases quantity comparison threshold persistence,
      Q (serveWriteTrigger n enabled phases quantity comparison threshold persistence s))
    (saveSettings : Q (serveSaveSettings s)) (restart : Q (serveRestart s)) (setTime : ∀ t, Q (serveSetTime t s))
    (c : Command) (params : List Byte) (fits : params.length = c.paramBytes) : Q (serve c p params s) := by
  cases c with
  | identify => match params, fits with | [], _ => exact identify
  | readStatus => match params, fits with | [], _ => exact readStatus
  | readPhases => match params, fits with | [], _ => exact readPhases
  | readConnection => match params, fits with | [_], _ => exact readConnection _
  | readTable => match params, fits with | [_], _ => exact readTable _
  | readQueue => match params, fits with | [_], _ => exact readQueue _
  | readLog => match params, fits with | [_, _, _, _, _], _ => exact readLog _ _
  | readSetting => match params, fits with | [_], _ => exact readSetting _
  | move => match params, fits with | [_, _, _, _, _], _ => exact move _ _ _ _
  | cancel => match params, fits with | [_], _ => exact cancel _
  | reprioritize => match params, fits with | [_, _], _ => exact reprioritize _ _
  | pin => match params, fits with | [_], _ => exact pin _
  | unpin => match params, fits with | [_], _ => exact unpin _
  | unpinAll => match params, fits with | [], _ => exact unpinAll
  | hold => match params, fits with | [], _ => exact hold
  | release => match params, fits with | [], _ => exact release
  | pauseBalancer => match params, fits with | [], _ => exact pause
  | resumeBalancer => match params, fits with | [], _ => exact resume
  | clearFault => match params, fits with | [_], _ => exact clearFault _
  | survey => match params, fits with | [], _ => exact survey
  | clearAlarms => match params, fits with | [_], _ => exact clearAlarms _
  | setAlarmMask => match params, fits with | [_], _ => exact setAlarmMask _
  | writeSetting => match params, fits with | [_, _, _, _, _], _ => exact writeSetting _ _
  | writeConnection => match params, fits with | [_, _, _, _, _, _, _], _ => exact writeConnection _ _ _ _
  | writeTrigger => match params, fits with | [_, _, _, _, _, _, _, _, _, _], _ => exact writeTrigger _ _ _ _ _ _ _
  | saveSettings => match params, fits with | [], _ => exact saveSettings
  | restart => match params, fits with | [], _ => exact restart
  | setTime => match params, fits with | [_, _, _, _], _ => exact setTime _
/-! ### The state a request leaves

A reading request leaves the state as it stands (R173), and so does a refusal; every other request is one of its own
effect's cases. -/

@[simp] theorem State.refuse_state (s : State) (status : Status) : (s.refuse status).state = s := rfl

@[simp] theorem serveReadConnection_state (n : Byte) (s : State) : (serveReadConnection n s).state = s := by
  unfold serveReadConnection; split <;> rfl

@[simp] theorem serveReadTable_state (n : Byte) (s : State) : (serveReadTable n s).state = s := by
  unfold serveReadTable; split <;> rfl

@[simp] theorem serveReadQueue_state (n : Byte) (s : State) : (serveReadQueue n s).state = s := by
  unfold serveReadQueue; split <;> rfl

@[simp] theorem serveReadLog_state (start : Word) (n : Byte) (s : State) : (serveReadLog start n s).state = s := by
  unfold serveReadLog; split <;> rfl

@[simp] theorem serveReadSetting_state (n : Byte) (s : State) : (serveReadSetting n s).state = s := by
  unfold serveReadSetting; split
  · rfl
  · split <;> rfl

/-- A request that changes nothing, or a property's own case. -/
theorem serve_cases_of_reads {P : State → Prop} {p : Port} {s : State} (same : P s)
    (move : ∀ n target priority life, P (serveMove p n target priority life s).state)
    (cancel : ∀ n, P (serveCancel n s).state) (reprioritize : ∀ n priority, P (serveReprioritize n priority s).state)
    (pin : ∀ n, P (servePin p n s).state) (unpin : ∀ n, P (serveUnpin p n s).state)
    (unpinAll : P (serveUnpinAll p s).state) (hold : P (serveHold p s).state) (release : P (serveRelease p s).state)
    (pause : P (servePause s).state) (resume : P (serveResume s).state)
    (clearFault : ∀ n, P (serveClearFault n s).state)
    (survey : P (serveSurvey s).state) (clearAlarms : ∀ named, P (serveClearAlarms p named s).state)
    (setAlarmMask : ∀ mask, P (serveSetAlarmMask p mask s).state)
    (writeSetting : ∀ n value, P (serveWriteSetting n value s).state)
    (writeConnection : ∀ n kind allowed serial, P (serveWriteConnection n kind allowed serial s).state)
    (writeTrigger : ∀ n enabled phases quantity comparison threshold persistence,
      P (serveWriteTrigger n enabled phases quantity comparison threshold persistence s).state)
    (saveSettings : P (serveSaveSettings s).state) (restart : P (serveRestart s).state)
    (setTime : ∀ t, P (serveSetTime t s).state) (c : Command) (params : List Byte)
    (fits : params.length = c.paramBytes) : P (serve c p params s).state :=
  serve_cases (Q := fun a => P a.state) same same same (fun _ => by simpa using same) (fun _ => by simpa using same)
    (fun _ => by simpa using same) (fun _ _ => by simpa using same) (fun _ => by simpa using same) move cancel
    reprioritize pin unpin unpinAll hold release pause resume clearFault survey clearAlarms setAlarmMask writeSetting
    writeConnection writeTrigger saveSettings restart setTime c params fits

end Sys2Proof.Machine

/-!
PROOFS. Every setting stays in its range (R71, R133, R172, R188).
-/

namespace Sys2Proof.Claims

open Sys2Proof.Machine

/-! ### Sound settings -/

/-- Soundness of the settings depends on the three copies alone. -/
theorem AllSettingsSound.congr {s t : State} (h : AllSettingsSound s) (hw : t.settings = s.settings)
    (hi : t.image = s.image) (hc : t.saving = s.saving) : AllSettingsSound t := by
  unfold AllSettingsSound
  rw [hw, hi, hc]
  exact h

/-- Other working settings, the image and a save's copy kept. -/
theorem AllSettingsSound.working {s t : State} (h : AllSettingsSound s) (hw : SettingsSound t.settings)
    (hi : t.image = s.image) (hc : t.saving = s.saving) : AllSettingsSound t := by
  unfold AllSettingsSound
  rw [hi, hc]
  exact ⟨hw, h.2⟩

/-- No save in progress: the working settings and the image alone count. -/
theorem AllSettingsSound.of_noSave {t : State} (hw : SettingsSound t.settings)
    (hi : ∀ st, t.image = some st → SettingsSound st) (hc : t.saving = none) : AllSettingsSound t :=
  ⟨hw, hi, fun st hst => by rw [hc] at hst; cases hst⟩

/-- The numeric settings lie in their ranges, with U_stop below U_start and the dead interval in steps of 10. -/
def NumericSound (st : Settings) : Prop :=
  (∀ id : SettingId, id.values.admits (st.numeric.get id.number) = true)
    ∧ st.numeric.get SettingId.uStop.number < st.numeric.get SettingId.uStart.number
    ∧ 10 ∣ st.numeric.get SettingId.deadInterval.number

/-- A connection's allowed phases suit its kind (R3). -/
def ConfigSound (g : ConnConfig) : Prop :=
  1 ≤ phaseCount g.allowed ∧ (g.kind = .movable → 2 ≤ phaseCount g.allowed)

/-- A trigger entry's fields are in range (R81). -/
def TriggerSound (g : TriggerConfig) : Prop :=
  1 ≤ g.persistence ∧ g.persistence ≤ 15 ∧ g.quantity.thresholdLow ≤ g.threshold
    ∧ g.threshold ≤ g.quantity.thresholdHigh

theorem settingsSound_iff (st : Settings) : SettingsSound st ↔
    NumericSound st ∧ (∀ c, ConfigSound (st.conns.get c)) ∧ ∀ i, TriggerSound (st.triggers.get i) := by
  simp only [SettingsSound, NumericSound, ConfigSound, TriggerSound, thresholdRange_eq, and_assoc]
  refine and_congr_left fun _ => forall_congr' fun id => ?_
  rw [settingRow_values]
  cases id.values <;> simp [SettingRange.admits]

theorem settingsSound_defaults : SettingsSound Settings.defaults := by
  refine (settingsSound_iff _).mpr ⟨⟨fun id => ?_, by decide, by decide⟩, fun c => ?_, fun i => ?_⟩
  · cases id <;> decide
  · simp only [Settings.defaults, vector_get_replicate]
    exact ⟨by decide, by decide⟩
  · simp only [Settings.defaults, vector_get_replicate]
    exact ⟨by decide, by decide, by decide, by decide⟩

/-- The settings an image gives at a reset: its own, or the defaults (R187). -/
theorem settingsSound_getD {image : Option Settings} (h : ∀ st, image = some st → SettingsSound st) :
    SettingsSound (image.getD Settings.defaults) := by
  cases image with
  | none => exact settingsSound_defaults
  | some st => exact h st rfl

/-! ### The writes of settings -/

/-- No range of R188 is empty. -/
theorem range_nonempty {id : SettingId} {low high : Nat} (h : id.values = .range low high) : low ≤ high := by
  cases id <;> simp only [SettingId.values, reduceCtorEq, SettingRange.range.injEq] at h <;> omega

/-- A value that fits a setting is one it takes (R172, R133). -/
theorem fit_admits {id : SettingId} {value : Int} {n : Nat} (h : id.fit value = some n) :
    id.values.admits n = true := by
  unfold SettingId.fit at h
  split at h
  · next vs hv =>
    rw [hv]
    exact List.contains_iff_mem.mpr (List.mem_of_find?_eq_some h)
  · next low high hv =>
    have nonempty := range_nonempty hv
    rw [hv]
    simp only [SettingRange.admits, decide_eq_true_eq]
    simp only [clampInt, Option.some.injEq] at h
    split at h
    · next e =>
      subst e
      cases hv
      omega
    · omega

/-- A dead interval that fits is a multiple of 10 (R133). -/
theorem fit_deadInterval {value : Int} {n : Nat} (h : SettingId.deadInterval.fit value = some n) : 10 ∣ n := by
  simp only [SettingId.fit, SettingId.values, if_true, Option.some.injEq] at h
  omega

/-- One number replaced by one its setting takes. -/
theorem admits_setNumeric {st : Settings} (h : ∀ id : SettingId, id.values.admits (st.numeric.get id.number) = true)
    {id : SettingId} {n : Nat} (hn : id.values.admits n = true) (j : SettingId) :
    j.values.admits ((st.setNumeric id n).numeric.get j.number) = true := by
  rw [Settings.setNumeric_get]
  split
  · next e => exact e ▸ hn
  · exact h j

/-- Storing a value that fits keeps the numeric settings sound (R71, R133). -/
theorem numericSound_store {st : Settings} (h : NumericSound st) {id : SettingId} {value : Int} {n : Nat}
    (hn : id.fit value = some n) : NumericSound (st.store id n).1 := by
  obtain ⟨inRange, below, tens⟩ := h
  have admitted := fit_admits hn
  have start := inRange .uStart
  have stop := inRange .uStop
  simp only [SettingRange.admits, SettingId.values, decide_eq_true_eq] at start stop
  have lowered : ∀ m, m ≤ 9998 → SettingId.uStop.values.admits m = true := by
    simp [SettingRange.admits, SettingId.values]
  unfold Settings.store
  dsimp only
  split
  · split
    · refine ⟨admits_setNumeric inRange (lowered _ (by omega)), ?_, ?_⟩
      all_goals simp only [Settings.setNumeric_get, reduceCtorEq, if_true, if_false]
      · omega
      · exact tens
    · refine ⟨admits_setNumeric inRange admitted, ?_, ?_⟩
      all_goals simp only [Settings.setNumeric_get, reduceCtorEq, if_true, if_false]
      · omega
      · exact tens
  · simp only [SettingRange.admits, SettingId.values, decide_eq_true_eq] at admitted
    split
    · refine ⟨admits_setNumeric (admits_setNumeric inRange (fit_admits hn)) (lowered _ (by omega)), ?_, ?_⟩
      all_goals simp only [Settings.setNumeric_get, reduceCtorEq, if_true, if_false]
      · omega
      · exact tens
    · refine ⟨admits_setNumeric inRange (fit_admits hn), ?_, ?_⟩
      all_goals simp only [Settings.setNumeric_get, reduceCtorEq, if_true, if_false]
      · omega
      · exact tens
  · next notStop notStart =>
    refine ⟨admits_setNumeric inRange admitted, ?_, ?_⟩
    all_goals simp only [Settings.setNumeric_get]
    · rw [if_neg fun e => notStop e.symm, if_neg fun e => notStart e.symm]
      exact below
    · split
      · next e =>
        subst e
        exact fit_deadInterval hn
      · exact tens

/-- A numeric value written to sound settings. -/
theorem settingsSound_store {st : Settings} (h : SettingsSound st) {id : SettingId} {value : Int} {n : Nat}
    (hn : id.fit value = some n) : SettingsSound (st.store id n).1 := by
  have conns : (st.store id n).1.conns = st.conns := by
    unfold Settings.store; dsimp only; repeat' split
    all_goals rfl
  have triggers : (st.store id n).1.triggers = st.triggers := by
    unfold Settings.store; dsimp only; repeat' split
    all_goals rfl
  obtain ⟨numeric, configs, entries⟩ := (settingsSound_iff _).mp h
  exact (settingsSound_iff _).mpr ⟨numericSound_store numeric hn, conns ▸ configs, triggers ▸ entries⟩

/-- Checks 2 to 4 of R19 let in only a configuration whose phases suit its kind. -/
theorem readConfig_sound {kind allowed : Byte} {serial : Word} {g : ConnConfig}
    (h : readConfig kind allowed serial = some g) : ConfigSound g := by
  unfold readConfig at h
  split at h
  · split at h
    · cases h
    · next k v _ _ checks =>
      cases h
      push Not at checks
      exact ⟨Nat.one_le_iff_ne_zero.mpr checks.1, checks.2⟩
  · cases h

/-- Checks 2 to 4 of R82 let in only an entry whose fields, clamped, are in range. -/
theorem readTrigger_sound {enabled phases quantity comparison persistence : Byte} {threshold : Word} {g : TriggerConfig}
    (h : readTrigger enabled phases quantity comparison threshold persistence = some g) : TriggerSound g := by
  have ordered : ∀ q : Quantity, q.thresholdLow ≤ q.thresholdHigh := fun q => by cases q <;> decide
  unfold readTrigger at h
  split at h
  · next q _ _ _ _ _ =>
    split at h
    · cases h
    · cases h
      have := ordered q
      refine ⟨?_, ?_, ?_, ?_⟩ <;> simp only [clampInt] <;> omega
  · cases h

theorem settingsSound_setConn {st : Settings} (h : SettingsSound st) (c : ConnId) {g : ConnConfig}
    (hg : ConfigSound g) : SettingsSound { st with conns := st.conns.set c g } := by
  obtain ⟨numeric, configs, entries⟩ := (settingsSound_iff _).mp h
  refine (settingsSound_iff _).mpr ⟨numeric, fun d => ?_, entries⟩
  rw [vector_get_set]
  split
  · exact hg
  · exact configs d

theorem settingsSound_setTrigger {st : Settings} (h : SettingsSound st) (i : TriggerId) {g : TriggerConfig}
    (hg : TriggerSound g) : SettingsSound { st with triggers := st.triggers.set i g } := by
  obtain ⟨numeric, configs, entries⟩ := (settingsSound_iff _).mp h
  refine (settingsSound_iff _).mpr ⟨numeric, configs, fun j => ?_⟩
  rw [vector_get_set]
  split
  · exact hg
  · exact entries j

/-! ### Every step -/

theorem restartEffect_settings (s : State) : s.restartEffect.settings = s.image.getD Settings.defaults := by
  simp [State.restartEffect, State.loadImage]

theorem restartEffect_keepsSettings {s : State} (h : AllSettingsSound s) : AllSettingsSound s.restartEffect :=
  h.working (restartEffect_settings s ▸ settingsSound_getD h.2.1) (by simp) (by simp)

theorem finishTransfer_keepsSettings {s : State} (h : AllSettingsSound s) : AllSettingsSound s.finishTransfer := by
  have before : AllSettingsSound s.takeFireSlot.dispatchChoice := h.congr (by simp) (by simp) (by simp)
  have due : AllSettingsSound s.takeFireSlot.dispatchChoice.restartIfDue := by
    unfold State.restartIfDue
    split
    · exact restartEffect_keepsSettings before
    · exact before
  exact due.congr (by simp [State.finishTransfer]) (by simp [State.finishTransfer]) (by simp [State.finishTransfer])

/-- Every request keeps sound settings sound; those that write none leave the three copies as they stand. -/
theorem serve_keepsSettings (c : Command) (p : Port) (params : List Byte) {s : State}
    (fits : params.length = c.paramBytes) (h : AllSettingsSound s) : AllSettingsSound (serve c p params s).state := by
  apply serve_cases_of_reads (fits := fits)
  case same => exact h
  case writeSetting =>
    intro n value
    unfold serveWriteSetting
    split
    · exact h
    · split
      · exact h
      · next v hv =>
        split
        · exact h
        · exact h.working (by simpa using settingsSound_store h.1 hv) (by simp) (by simp)
  case writeConnection =>
    intro n kind allowed serial
    unfold serveWriteConnection
    split
    · exact h
    · next c _ =>
      split
      · exact h
      · next g hg =>
        repeat' split
        · exact h
        · exact h
        · have written : (s.writeConfig c g).settings = { s.settings with conns := s.settings.conns.set c g } := by
            unfold State.writeConfig; dsimp only; split <;> simp
          exact h.working (written ▸ settingsSound_setConn h.1 c (readConfig_sound hg)) (by simp) (by simp)
  case writeTrigger =>
    intro n enabled phases quantity comparison threshold persistence
    unfold serveWriteTrigger
    split
    · split
      · exact h
      · next g hg =>
        split
        · exact h
        · exact h.working (settingsSound_setTrigger h.1 _ (readTrigger_sound hg)) (by simp) (by simp)
    · exact h
  case setAlarmMask =>
    intro mask
    obtain ⟨numeric, configs, entries⟩ := (settingsSound_iff _).mp h.1
    exact h.working ((settingsSound_iff _).mpr ⟨numeric, configs, entries⟩) rfl rfl
  case saveSettings =>
    unfold serveSaveSettings
    split
    · exact h
    · exact ⟨h.1, h.2.1, fun st hst => by cases hst; exact h.1⟩
  case move =>
    intro n target priority life
    unfold serveMove State.placeMove State.admitMove
    dsimp only
    repeat' split
    all_goals exact h.congr (by simp) (by simp) (by simp)
  case cancel =>
    intro n
    unfold serveCancel
    repeat' split
    all_goals exact h.congr (by simp) (by simp) (by simp)
  case reprioritize =>
    intro n priority
    unfold serveReprioritize
    repeat' split
    all_goals exact h.congr (by simp) (by simp) (by simp)
  case pin =>
    intro n
    unfold servePin
    dsimp only
    repeat' split
    all_goals exact h.congr (by simp) (by simp) (by simp)
  case unpin =>
    intro n
    unfold serveUnpin
    dsimp only
    repeat' split
    all_goals exact h.congr (by simp) (by simp) (by simp)
  case unpinAll =>
    unfold serveUnpinAll
    dsimp only
    repeat' split
    all_goals exact h.congr (by simp) (by simp) (by simp)
  case hold =>
    unfold serveHold
    dsimp only
    repeat' split
    all_goals exact h.congr (by simp) (by simp) (by simp)
  case release =>
    unfold serveRelease
    dsimp only
    repeat' split
    all_goals exact h.congr (by simp) (by simp) (by simp)
  case pause =>
    unfold servePause
    dsimp only
    repeat' split
    all_goals exact h.congr (by simp) (by simp) (by simp)
  case resume =>
    unfold serveResume
    dsimp only
    repeat' split
    all_goals exact h.congr (by simp) (by simp) (by simp)
  case clearFault =>
    intro n
    unfold serveClearFault
    dsimp only
    repeat' split
    all_goals exact h.congr (by simp) (by simp) (by simp)
  case survey =>
    unfold serveSurvey
    repeat' split
    all_goals exact h.congr (by simp) (by simp) (by simp)
  case clearAlarms =>
    intro named
    unfold serveClearAlarms
    dsimp only
    exact h.congr (by simp) (by simp) (by simp)
  case restart =>
    unfold serveRestart
    repeat' split
    all_goals exact h.congr (by simp) (by simp) (by simp)
  case setTime =>
    intro time
    unfold serveSetTime
    dsimp only
    repeat' split
    all_goals exact h.congr (by simp) (by simp) (by simp)

/-- The last parts of an event leave the three copies as they stand. -/
theorem finish_keepsSettings {s : State} (h : AllSettingsSound s) : AllSettingsSound s.finish :=
  h.congr (by simp) (by simp) (by simp)

theorem goodReply_keepsSettings {s : State} (o : Outstanding) (serial : Word) (r : Reply) (h : AllSettingsSound s) :
    AllSettingsSound (s.goodReply o serial r) := by
  unfold State.goodReply
  dsimp only
  split
  · split <;> exact finishTransfer_keepsSettings (h.congr (by simp) (by simp) (by simp))
  · split <;> exact finishTransfer_keepsSettings (h.congr (by simp) (by simp) (by simp))

theorem lapseOutstanding_keepsSettings {s : State} (o : Outstanding) (h : AllSettingsSound s) :
    AllSettingsSound (s.lapseOutstanding o) := by
  unfold State.lapseOutstanding
  dsimp only
  split
  · exact finishTransfer_keepsSettings (h.congr (by simp) (by simp) (by simp))
  · split <;> exact finishTransfer_keepsSettings (h.congr (by simp) (by simp) (by simp))

/-- A save that supply breaks off leaves a bad image; otherwise the image stands (R189). -/
theorem imageAfterLoss_sound {s : State} (h : AllSettingsSound s) :
    ∀ st, s.imageAfterLoss = some st → SettingsSound st := by
  unfold State.imageAfterLoss
  split
  · exact fun _ e => nomatch e
  · exact h.2.1

theorem powerOn_keepsSettings {s : State} (h : AllSettingsSound s) : AllSettingsSound s.powerOn := by
  have image := imageAfterLoss_sound h
  refine .of_noSave ?_ ?_ ?_ <;> simp only [State.powerOn, State.setLines_frame, State.arbitrate_frame,
    State.startRound_frame, poweredUp]
  · exact settingsSound_getD image
  · exact image

theorem supplyLost_keepsSettings {s : State} (h : AllSettingsSound s) :
    AllSettingsSound (((s.withPowered false).withImage s.imageAfterLoss).withSaving none) :=
  .of_noSave (by simpa using h.1) (by simpa using imageAfterLoss_sound h) (by simp)

theorem saveEnd_keepsSettings {s : State} {copy : Settings} (h : AllSettingsSound s) (hc : s.saving = some copy) :
    AllSettingsSound ((s.withImage (some copy)).withSaving none).finishTransfer :=
  finishTransfer_keepsSettings (.of_noSave (by simpa using h.1) (by simpa using h.2.2 copy hc) (by simp))

theorem survives_allSettingsSound : Survives AllSettingsSound where
  pending _ _ h := h.congr rfl rfl rfl
  setPort _ _ _ h := h.congr rfl rfl rfl
  setRx _ _ h := h.congr rfl rfl rfl
  serve c p params _ fits h := serve_keepsSettings c p params fits h
  finishTransfer _ h := finishTransfer_keepsSettings h
  acceptWindow s r h := by
    unfold State.acceptWindow
    exact finish_keepsSettings (h.congr (by simp) (by simp) (by simp))
  goodReply _ o serial r h _ _ := goodReply_keepsSettings o serial r h
  lapseOutstanding _ o h _ := lapseOutstanding_keepsSettings o h
  powerOn s t h e := by
    injection e with e
    exact e ▸ powerOn_keepsSettings h
  supplyLost s t h e := by
    injection e with e
    subst e
    split
    · exact supplyLost_keepsSettings h
    · exact h
  oneSecond s t h e := whilePowered_keeps h (finish_keepsSettings (h.congr (by simp) (by simp) (by simp))) e
  saveEnd s t h e := by
    refine whilePowered_keeps h ?_ e
    split
    · exact h
    · next copy hc => exact saveEnd_keepsSettings h hc
  restart s t h e := by
    refine whilePowered_keeps h ?_ e
    split
    · exact (restartEffect_keepsSettings h).congr (by simp) (by simp) (by simp)
    · exact h
  quietCount s t h e := by
    refine whilePowered_keeps h ?_ e
    split
    · exact finish_keepsSettings (h.congr (by simp) (by simp) (by simp))
    · exact h
  staleness s t h e := by
    refine whilePowered_keeps h ?_ e
    unfold State.expireStaleness
    split
    · exact h.congr (by simp) (by simp) (by simp)
    · exact h
  routineSpacing s t h e := by
    refine whilePowered_keeps h ?_ e
    split
    · exact h.congr (by simp) (by simp) (by simp)
    · exact h
  surveyTimer s t h e := whilePowered_keeps h (h.congr (by simp) (by simp) (by simp)) e
  arrivalHold c s t h e := by
    refine whilePowered_keeps h ?_ e
    split
    · exact finish_keepsSettings (h.congr (by simp) (by simp) (by simp))
    · exact h
  settle c s t h e := by
    refine whilePowered_keeps h ?_ e
    split
    · exact finish_keepsSettings (h.congr (by simp) (by simp) (by simp))
    · exact h
  expired c s t h e := by
    refine whilePowered_keeps h ?_ e
    split
    · exact finish_keepsSettings (h.congr (by simp) (by simp) (by simp))
    · exact h
  armDeadline k s t h e := by
    refine whilePowered_keeps h ?_ e
    split
    · exact h
    · split
      · exact finish_keepsSettings (h.congr (by simp) (by simp) (by simp))
      · exact h
  confirmTimer k s t h e := by
    refine whilePowered_keeps h ?_ e
    split
    · exact h
    · split
      · exact h.congr (by simp) (by simp) (by simp)
      · exact h
  confirmDeadline k s t h e := by
    refine whilePowered_keeps h ?_ e
    split
    · exact h
    · split
      · exact finishTransfer_keepsSettings (h.congr (by simp) (by simp) (by simp))
      · exact h

/-- Settles O58: a step is made of parts that each keep sound settings sound. -/
theorem everyStepKeepsTheSettings : Obligations.EveryStepKeepsTheSettings :=
  fun _ _ sound step => survives_allSettingsSound.step sound step

end Sys2Proof.Claims

/-!
PROOFS. Where the orders are (R89, R130, R131): the queue, the contexts, the motions that mirror them and the requests
that the contexts raise, apart from the rest of the state, with one rule for each way in which they change.
-/

namespace Sys2Proof.Claims

open Sys2Proof.Machine

/-! ### What the agreement is about -/

/-- The connections of the queued orders, the oldest first. -/
def queuedConns (s : State) : List ConnId := s.queue.orders.map (·.conn)

/-- Every connection's motion. -/
def motions (s : State) : ConnId → Motion := fun c => (s.conn c).motion

/-- The place in the queue's room that a context keeps: one unless it is free or FIRED (R89). -/
def placesKept : Option Context → Nat
  | none => 0
  | some x => if x.state = .fired then 0 else 1

/-- The places in the queue's room that both contexts keep. -/
def placesInFlight (C : CtxId → Option Context) : Nat := placesKept (C .first) + placesKept (C .second)

/-- The orders' places agree with the motions: each order has a connection of its own, QUEUED or in the motion of its
context, and the room of 16 suffices (R14, R89). -/
structure Placed (Q : List ConnId) (M : ConnId → Motion) (C : CtxId → Option Context) : Prop where
  nodup : Q.Nodup
  queued : ∀ c ∈ Q, M c = .queued
  mirrored : ∀ k x, C k = some x → M x.order.conn = motionOf x.state
  apart : ∀ j k x y, C j = some x → C k = some y → x.order.conn = y.order.conn → j = k
  room : Q.length + placesInFlight C ≤ 16

/-- A context agrees with the fire slot, the next dispatch number and the outstanding request (R130, R131). -/
structure ContextSound (slot : Option CtxId) (next : Nat) (out : Option Outstanding) (k : CtxId) (x : Context) :
    Prop where
  number : x.dispatchNumber < next
  fired : x.state = .fired → slot = some k
  fire : x.slot = some .fire → x.state = .armed ∧ slot = some k
  arm : x.slot = some .arm → x.state = .arming
  firing : ∀ o, out = some o → o.raiser = .context x.dispatchNumber → o.request = .fire →
    x.state = .armed ∧ slot = some k ∧ x.slot ≠ some .fire
  arming : ∀ o, out = some o → o.raiser = .context x.dispatchNumber → ∀ q dead hold, o.request = .arm q dead hold →
    x.state = .arming ∧ x.slot ≠ some .arm

/-- The contexts agree with the requests they raise and with the fire slot, and their dispatch numbers differ. -/
structure Raised (C : CtxId → Option Context) (slot : Option CtxId) (next : Nat) (out : Option Outstanding) : Prop where
  context : ∀ k x, C k = some x → ContextSound slot next out k x
  numbers : ∀ j k x y, C j = some x → C k = some y → x.dispatchNumber = y.dispatchNumber → j = k
  raiser : ∀ o n, out = some o → o.raiser = .context n → n < next

theorem unfiredContexts_eq (s : State) : s.unfiredContexts = placesInFlight s.transfers.get := by
  have one : ∀ (k : CtxId) (y : Option Context), (((y.map fun x => (k, x)).toList).filter
      fun e => e.2.state != .fired).length = placesKept y := by
    intro k y
    rcases y with _ | x
    · rfl
    · by_cases h : x.state = .fired <;> simp [placesKept, h]
  simp only [State.unfiredContexts, State.inFlight, List.filter_append, List.length_append, one]
  rfl

/-- Two contexts that differ in a value are the two contexts. -/
theorem distinct_iff {α : Type} (C : CtxId → Option Context) (f : Context → α) :
    (∀ x y, C .first = some x → C .second = some y → f x ≠ f y)
      ↔ ∀ j k x y, C j = some x → C k = some y → f x = f y → j = k := by
  refine ⟨fun h j k x y hj hk e => ?_, fun h x y hx hy e => ?_⟩
  · cases j <;> cases k
    · rfl
    · exact absurd e (h x y hj hk)
    · exact absurd e.symm (h y x hk hj)
    · rfl
  · cases h _ _ x y hx hy e

theorem allOrders_conns (s : State) : (allOrders s).map (·.conn) =
    queuedConns s ++ s.inFlight.map (·.2.order.conn) := by
  simp [allOrders, queuedConns]

/-- The queue and the contexts agree exactly when the places and the requests do. -/
theorem ordersSound_iff (s : State) : OrdersSound s ↔
    Placed (queuedConns s) (motions s) s.transfers.get
      ∧ Raised s.transfers.get s.transfers.fireSlot s.transfers.nextDispatch s.bus.outstanding := by
  constructor
  · rintro ⟨nodup, room, queued, ctx, numbers, raiser⟩
    rw [allOrders_conns] at nodup
    refine ⟨⟨?_, ?_, fun k x h => ?_, ?_, ?_⟩, fun k x h => ?_, ?_, raiser⟩
    · exact nodup.of_append_left
    · intro c hc
      obtain ⟨o, ho, rfl⟩ := List.mem_map.mp hc
      exact queued o ho
    · exact (ctx k x h).1
    · refine (distinct_iff _ fun x : Context => x.order.conn).mp fun x y hx hy e => ?_
      have two := nodup.of_append_right
      simp [State.inFlight, State.context, hx, hy, e] at two
    · rw [← unfiredContexts_eq]
      simpa [State.occupancy, queuedConns] using room
    · obtain ⟨-, number, fired, fire, arm, out⟩ := ctx k x h
      exact ⟨number, fired, fire, arm, fun o ho hr => (out o ho hr).1, fun o ho hr => (out o ho hr).2⟩
    · exact (distinct_iff _ fun x : Context => x.dispatchNumber).mp numbers
  · rintro ⟨placed, raised⟩
    refine ⟨?_, ?_, fun o ho => ?_, fun k x h => ?_, ?_, raised.raiser⟩
    · rw [allOrders_conns]
      have two := (distinct_iff _ fun x : Context => x.order.conn).mpr placed.apart
      refine List.nodup_append.mpr ⟨placed.nodup, ?_, ?_⟩
      · unfold State.inFlight State.context
        rcases h1 : s.transfers.get .first with _ | x <;> rcases h2 : s.transfers.get .second with _ | y <;> simp
        exact two x y h1 h2
      · rintro c hc d hd rfl
        obtain ⟨⟨k, x⟩, hx, rfl⟩ := List.mem_map.mp hd
        have here := placed.mirrored k x ((inFlight_mem s k x).mp hx)
        rw [placed.queued _ hc] at here
        cases hx : x.state <;> simp [hx, motionOf] at here
    · simpa [State.occupancy, queuedConns, unfiredContexts_eq] using placed.room
    · exact placed.queued _ (List.mem_map_of_mem ho)
    · have sound := raised.context k x h
      exact ⟨placed.mirrored k x h, sound.number, sound.fired, sound.fire, sound.arm,
        fun o ho hr => ⟨sound.firing o ho hr, sound.arming o ho hr⟩⟩
    · exact (distinct_iff _ fun x : Context => x.dispatchNumber).mpr raised.numbers

/-! ### How the places change -/

/-- A connection without an order. -/
def Free (Q : List ConnId) (C : CtxId → Option Context) (c : ConnId) : Prop :=
  c ∉ Q ∧ ∀ k x, C k = some x → x.order.conn ≠ c

theorem motionOf_ne_queued (v : CtxState) : motionOf v ≠ .queued := by cases v <;> decide

theorem motionOf_inFlight (v : CtxState) : (motionOf v).inFlight = true := by cases v <;> rfl

section
variable {Q : List ConnId} {M : ConnId → Motion} {C : CtxId → Option Context}

/-- A connection that is not queued and has no transfer in flight has no order. -/
theorem Placed.free_of_unqueued (h : Placed Q M C) {c : ConnId} (hc : c ∉ Q) (flight : (M c).inFlight = false) :
    Free Q C c := by
  refine ⟨hc, fun k x hx e => ?_⟩
  have here := h.mirrored k x hx
  rw [e] at here
  rw [here, motionOf_inFlight] at flight
  cases flight

/-- A connection whose motion is that of no order has none. -/
theorem Placed.free_of_motion (h : Placed Q M C) {c : ConnId} (queued : M c ≠ .queued)
    (flight : (M c).inFlight = false) :
    Free Q C c := h.free_of_unqueued (fun hc => queued (h.queued c hc)) flight

/-- The connection of a context's order has no other order. -/
theorem Placed.free_of_context (h : Placed Q M C) {k : CtxId} {x : Context} (hx : C k = some x) :
    Free Q (Function.update C k none) x.order.conn := by
  refine ⟨fun hc => ?_, fun j y hy e => ?_⟩
  · have here := h.queued _ hc
    rw [h.mirrored k x hx] at here
    exact motionOf_ne_queued _ here
  · by_cases hj : j = k
    · subst hj
      simp at hy
    · rw [Function.update_of_ne hj] at hy
      exact hj (h.apart j k y x hy hx e)

/-- The motion of a connection without an order is free. -/
theorem Placed.setMotion (h : Placed Q M C) {c : ConnId} (hc : Free Q C c) (m : Motion) :
    Placed Q (Function.update M c m) C := by
  refine ⟨h.nodup, fun d hd => ?_, fun k x hx => ?_, h.apart, h.room⟩
  · rw [Function.update_of_ne (fun e : d = c => hc.1 (e ▸ hd))]
    exact h.queued d hd
  · rw [Function.update_of_ne (hc.2 k x hx)]
    exact h.mirrored k x hx

/-- An order is taken out of the queue: its connection has none. -/
theorem Placed.drop (h : Placed Q M C) (c : ConnId) : Placed (Q.filter (· != c)) M C :=
  ⟨h.nodup.filter _, fun d hd => h.queued d (List.mem_filter.mp hd).1, h.mirrored, h.apart,
    (Nat.add_le_add_right (List.length_filter_le _ _) _).trans h.room⟩

theorem Placed.drop_free (h : Placed Q M C) {c : ConnId} (hc : c ∈ Q) : Free (Q.filter (· != c)) C c := by
  refine ⟨fun hm => by simpa using (List.mem_filter.mp hm).2, fun k x hx e => ?_⟩
  have here := h.mirrored k x hx
  rw [e, h.queued c hc] at here
  exact motionOf_ne_queued _ here.symm

/-- Taking an order out of the queue makes room for one. -/
theorem length_drop {c : ConnId} (hc : c ∈ Q) : (Q.filter (· != c)).length + 1 ≤ Q.length :=
  List.length_filter_lt_length_iff_exists.mpr ⟨c, hc, by simp⟩

/-- An order joins the queue, at whatever place. -/
theorem Placed.join (h : Placed Q M C) {c : ConnId} (hc : Free Q C c) {Q' : List ConnId} (hQ : Q'.Perm (c :: Q))
    (room : Q.length + placesInFlight C < 16) : Placed Q' (Function.update M c .queued) C := by
  have moved := h.setMotion hc .queued
  refine ⟨hQ.nodup_iff.mpr (List.nodup_cons.mpr ⟨hc.1, h.nodup⟩), fun d hd => ?_, moved.mirrored, h.apart, ?_⟩
  · rcases List.mem_cons.mp (hQ.mem_iff.mp hd) with rfl | hd
    · simp
    · exact moved.queued d hd
  · rw [hQ.length_eq, List.length_cons]
    omega

theorem placesInFlight_update (k : CtxId) (y : Option Context) :
    placesInFlight (Function.update C k y) + placesKept (C k) = placesInFlight C + placesKept y := by
  cases k <;> simp [placesInFlight, Function.update] <;> omega

/-- A context is released. -/
theorem Placed.release (h : Placed Q M C) (k : CtxId) : Placed Q M (Function.update C k none) := by
  have kept : ∀ j x, Function.update C k none j = some x → C j = some x := by
    intro j x hx
    by_cases hj : j = k
    · subst hj; simp at hx
    · rwa [Function.update_of_ne hj] at hx
  refine ⟨h.nodup, h.queued, fun j x hx => h.mirrored j x (kept j x hx),
    fun i j x y hx hy => h.apart i j x y (kept i x hx) (kept j y hy), ?_⟩
  have room := h.room
  have places := placesInFlight_update (C := C) k none
  simp only [placesKept] at places
  omega

/-- A free context is filled. -/
theorem Placed.fill (h : Placed Q M C) {k : CtxId} (hk : C k = none) {y : Context} (hc : Free Q C y.order.conn)
    (room : Q.length + placesInFlight C + placesKept (some y) ≤ 16) :
    Placed Q (Function.update M y.order.conn (motionOf y.state)) (Function.update C k (some y)) := by
  have moved := h.setMotion hc (motionOf y.state)
  refine ⟨h.nodup, moved.queued, fun j x hx => ?_, fun i j x z hx hz e => ?_, ?_⟩
  · by_cases hj : j = k
    · subst hj
      simp only [Function.update_self, Option.some.injEq] at hx
      subst hx
      simp
    · rw [Function.update_of_ne hj] at hx
      exact moved.mirrored j x hx
  · by_cases hi : i = k <;> by_cases hj : j = k
    · rw [hi, hj]
    · subst hi
      rw [Function.update_of_ne hj] at hz
      simp only [Function.update_self, Option.some.injEq] at hx
      subst hx
      exact absurd e.symm (hc.2 j z hz)
    · subst hj
      rw [Function.update_of_ne hi] at hx
      simp only [Function.update_self, Option.some.injEq] at hz
      subst hz
      exact absurd e (hc.2 i x hx)
    · rw [Function.update_of_ne hi] at hx
      rw [Function.update_of_ne hj] at hz
      exact h.apart i j x z hx hz e
  · have places := placesInFlight_update (C := C) k (some y)
    rw [hk] at places
    simp only [placesKept] at places room ⊢
    omega

/-- A context in flight goes on with its order, unless a FIRED one would take its place in the room again. -/
theorem Placed.advance (h : Placed Q M C) {k : CtxId} {x y : Context} (hx : C k = some x)
    (order : y.order = x.order) (state : x.state = .fired → y.state = .fired) :
    Placed Q (Function.update M x.order.conn (motionOf y.state)) (Function.update C k (some y)) := by
  have released := h.release k
  have free := h.free_of_context hx
  rw [← order] at free ⊢
  have filled := released.fill (k := k) (by simp) free ?_
  · rwa [Function.update_idem] at filled
  · have room := h.room
    have places := placesInFlight_update (C := C) k none
    rw [hx] at places
    by_cases fired : x.state = .fired
    · simp [placesKept, fired, state fired] at places ⊢
      omega
    · simp only [placesKept, fired, if_false] at places ⊢
      split <;> omega

/-- A context in flight goes on in its state. -/
theorem Placed.slot (h : Placed Q M C) {k : CtxId} {x y : Context} (hx : C k = some x) (order : y.order = x.order)
    (state : y.state = x.state) : Placed Q M (Function.update C k (some y)) := by
  have here := h.advance (y := y) hx order (fun fired => state.trans fired)
  rwa [state, ← h.mirrored k x hx, Function.update_eq_self] at here

end

/-! ### How the requests change -/

section
variable {C : CtxId → Option Context} {slot : Option CtxId} {next : Nat} {out : Option Outstanding}

/-- The outstanding request ends. -/
theorem Raised.ended (h : Raised C slot next out) : Raised C slot next none :=
  ⟨fun k x hx => { h.context k x hx with firing := nofun, arming := nofun }, h.numbers, nofun⟩

/-- The fire slot without a context: released when that context held it. -/
def slotWithout (slot : Option CtxId) (k : CtxId) : Option CtxId := if slot = some k then none else slot

theorem slotWithout_of_ne {k j : CtxId} (hj : j ≠ k) (h : slot = some j) : slotWithout slot k = some j := by
  subst h
  simp [slotWithout, hj]

/-- The fire slot is released by a context that loses it; the other context stands. -/
theorem ContextSound.other (h : ContextSound slot next out j x) {k : CtxId} (hj : j ≠ k) :
    ContextSound (slotWithout slot k) next out j x :=
  { h with
    fired := fun e => slotWithout_of_ne hj (h.fired e)
    fire := fun e => ⟨(h.fire e).1, slotWithout_of_ne hj (h.fire e).2⟩
    firing := fun o ho hr he =>
      ⟨(h.firing o ho hr he).1, slotWithout_of_ne hj (h.firing o ho hr he).2.1, (h.firing o ho hr he).2.2⟩ }

/-- One context changes, and the other stands. -/
theorem Raised.update (h : Raised C slot next out) {k : CtxId} {y : Context} {slot' : Option CtxId} {next' : Nat}
    {out' : Option Outstanding} (here : ContextSound slot' next' out' k y)
    (others : ∀ j x, j ≠ k → C j = some x → ContextSound slot' next' out' j x ∧ x.dispatchNumber ≠ y.dispatchNumber)
    (raiser : ∀ o n, out' = some o → o.raiser = .context n → n < next') :
    Raised (Function.update C k (some y)) slot' next' out' := by
  refine ⟨fun j x hx => ?_, fun i j x z hx hz e => ?_, raiser⟩
  · by_cases hj : j = k
    · subst hj
      simp only [Function.update_self, Option.some.injEq] at hx
      exact hx ▸ here
    · rw [Function.update_of_ne hj] at hx
      exact (others j x hj hx).1
  · by_cases hi : i = k <;> by_cases hj : j = k
    · rw [hi, hj]
    · subst hi
      rw [Function.update_of_ne hj] at hz
      simp only [Function.update_self, Option.some.injEq] at hx
      subst hx
      exact absurd e.symm (others j z hj hz).2
    · subst hj
      rw [Function.update_of_ne hi] at hx
      simp only [Function.update_self, Option.some.injEq] at hz
      subst hz
      exact absurd e (others i x hi hx).2
    · rw [Function.update_of_ne hi] at hx
      rw [Function.update_of_ne hj] at hz
      exact h.numbers i j x z hx hz e

/-- The other context of one that goes on under its number has another number. -/
theorem Raised.number_ne (h : Raised C slot next out) {j k : CtxId} {x y : Context} (hj : j ≠ k) (hx : C j = some x)
    (hy : C k = some y) : x.dispatchNumber ≠ y.dispatchNumber := fun e => hj (h.numbers j k x y hx hy e)

/-- A context is released, and the fire slot with it. -/
theorem Raised.release (h : Raised C slot next out) (k : CtxId) :
    Raised (Function.update C k none) (slotWithout slot k) next out := by
  have kept : ∀ j x, Function.update C k none j = some x → j ≠ k ∧ C j = some x := by
    intro j x hx
    by_cases hj : j = k
    · subst hj; simp at hx
    · rw [Function.update_of_ne hj] at hx
      exact ⟨hj, hx⟩
  refine ⟨fun j x hx => ?_, fun i j x y hx hy => ?_, h.raiser⟩
  · obtain ⟨hj, hx⟩ := kept j x hx
    exact (h.context j x hx).other hj
  · exact h.numbers i j x y (kept i x hx).2 (kept j y hy).2

/-- A free bus is granted to a request that no context raised. -/
theorem Raised.sentOther (h : Raised C slot next none) {o : Outstanding} (ho : ∀ n, o.raiser ≠ .context n) :
    Raised C slot next (some o) := by
  refine ⟨fun k x hx => { h.context k x hx with firing := fun p hp hr => ?_, arming := fun p hp hr => ?_ },
    h.numbers, fun p n hp hr => ?_⟩
  all_goals cases hp; exact absurd hr (ho _)

end

end Sys2Proof.Claims

/-!
PROOFS. The shared operations of the queue, the contexts and the bus keep the orders' agreement.
-/

namespace Sys2Proof.Claims

open Sys2Proof.Machine

/-! ### Operations that touch no order -/

theorem queuedConns_congr {s t : State} (h : t.queue = s.queue) : queuedConns t = queuedConns s := by
  simp [queuedConns, h]

theorem motions_congr {s t : State} (h : t.conns = s.conns) : motions t = motions s := by
  funext c
  simp [motions, State.conn_congr h]

/-- The agreement depends on the places, the motions, the contexts and the outstanding request alone. -/
theorem OrdersSound.congr {s t : State} (h : OrdersSound s) (hq : queuedConns t = queuedConns s)
    (hm : motions t = motions s) (ht : t.transfers = s.transfers) (ho : t.bus.outstanding = s.bus.outstanding) :
    OrdersSound t := by
  rw [ordersSound_iff] at h ⊢
  rw [hq, hm, ht, ho]
  exact h

/-- An operation on another block. -/
theorem OrdersSound.of_frame {s t : State} (h : OrdersSound s) (hq : t.queue = s.queue) (hc : t.conns = s.conns)
    (ht : t.transfers = s.transfers) (hb : t.bus = s.bus) : OrdersSound t :=
  h.congr (queuedConns_congr hq) (motions_congr hc) ht (congrArg Bus.outstanding hb)

/-- An operation on connection records that changes no motion. -/
theorem OrdersSound.of_motions {s t : State} (h : OrdersSound s) (hm : motions t = motions s) (hq : t.queue = s.queue)
    (ht : t.transfers = s.transfers) (hb : t.bus.outstanding = s.bus.outstanding) : OrdersSound t :=
  h.congr (queuedConns_congr hq) hm ht hb

theorem motions_setConn (s : State) (c : ConnId) (x : Connection) :
    motions (s.setConn c x) = Function.update (motions s) c x.motion := by
  funext d
  by_cases h : d = c <;> simp [motions, State.setConn_conn, Function.update, h]

theorem motions_modConn (s : State) (c : ConnId) (f : Connection → Connection) :
    motions (s.modConn c f) = Function.update (motions s) c (f (s.conn c)).motion := motions_setConn s c _

theorem motions_setMotion (s : State) (c : ConnId) (m : Motion) :
    motions (s.setMotion c m) = Function.update (motions s) c m := motions_modConn s c _

/-- A connection record written with its motion kept. -/
theorem motions_setConn_same (s : State) (c : ConnId) {x : Connection} (h : x.motion = (s.conn c).motion) :
    motions (s.setConn c x) = motions s := by
  rw [motions_setConn, h]
  exact Function.update_eq_self c (motions s)

theorem motions_modConn_same (s : State) (c : ConnId) {f : Connection → Connection}
    (h : (f (s.conn c)).motion = (s.conn c).motion) : motions (s.modConn c f) = motions s :=
  motions_setConn_same s c h

theorem motions_mapConns_same (s : State) {f : ConnId → Connection → Connection}
    (h : ∀ c x, (f c x).motion = x.motion) : motions (s.mapConns f) = motions s := by
  funext c
  simp [motions, h]

/-! ### Removal from the queue -/

theorem queuedOrder_some {s : State} {c : ConnId} {o : Order} (h : s.queuedOrder c = some o) :
    o ∈ s.queue.orders ∧ o.conn = c :=
  ⟨List.mem_of_find?_eq_some h, by simpa using List.find?_some h⟩

theorem queuedOrder_none {s : State} {c : ConnId} : s.queuedOrder c = none ↔ c ∉ queuedConns s := by
  simp [State.queuedOrder, queuedConns]

theorem mem_queuedConns {s : State} {o : Order} (h : o ∈ s.queue.orders) : o.conn ∈ queuedConns s :=
  List.mem_map_of_mem h

theorem allOrders_all (s : State) (f : Order → Bool) :
    (allOrders s).all f = (s.queue.orders.all f && s.inFlight.all fun e => f e.2.order) := by
  simp [allOrders, List.all_append, List.all_map, Function.comp_def]

/-- The engine is told of an order's end as R80 says. -/
theorem orderEnded_eq_engineTold (s : State) (src : Source) : s.orderEnded src = engineTold s src := by
  have none : s.balancerOrderRemains = false ↔ (allOrders s).all (fun o => o.source != .balancer) = true := by
    rw [allOrders_all]
    simp [State.balancerOrderRemains]
  simp only [State.orderEnded, engineTold, none]
  rfl

/-- A queued order's removal without dispatch is effects 1 to 4 of R96. -/
theorem removeQueued_eq_removed {s : State} {c : ConnId} {o : Order} (h : s.queuedOrder c = some o) (e : LogOutcome) :
    s.removeQueued c e = removed s o e := by
  obtain ⟨-, rfl⟩ := queuedOrder_some h
  simp only [State.removeQueued, h, orderEnded_eq_engineTold]
  rfl

theorem removeQueued_of_none {s : State} {c : ConnId} (h : s.queuedOrder c = none) (e : LogOutcome) :
    s.removeQueued c e = s := by simp [State.removeQueued, h]

/-- The engine's being told changes the engine alone. -/
theorem engineTold_frame (s : State) (src : Source) :
    engineTold s src = { s with engine := (engineTold s src).engine } := by
  unfold engineTold
  split <;> rfl

theorem queuedConns_filter (l : List Order) (c : ConnId) :
    (l.filter fun q => q.conn != c).map (·.conn) = (l.map (·.conn)).filter (· != c) := by
  simp [List.filter_map, Function.comp_def]

/-- The removal of a queued order keeps the agreement. -/
theorem removed_keepsOrders {s : State} (h : OrdersSound s) {o : Order} (ho : o ∈ s.queue.orders) (e : LogOutcome) :
    OrdersSound (removed s o e) := by
  obtain ⟨placed, raised⟩ := (ordersSound_iff s).mp h
  have free := placed.drop_free (mem_queuedConns ho)
  have after := (placed.drop o.conn).setMotion free .idle
  unfold removed
  rw [engineTold_frame]
  refine (ordersSound_iff _).mpr ⟨?_, raised⟩
  rw [queuedConns, queuedConns_filter]
  have moved := motions_setConn s o.conn { s.conn o.conn with motion := .idle }
  exact moved ▸ after

theorem removeQueued_keepsOrders {s : State} (h : OrdersSound s) (c : ConnId) (e : LogOutcome) :
    OrdersSound (s.removeQueued c e) := by
  cases ho : s.queuedOrder c with
  | none => rwa [removeQueued_of_none ho]
  | some o =>
    rw [removeQueued_eq_removed ho]
    exact removed_keepsOrders h (queuedOrder_some ho).1 e

theorem removeBalancer_keepsOrders {s : State} (h : OrdersSound s) (c : ConnId) (e : LogOutcome) :
    OrdersSound (s.removeBalancer c e) := by
  unfold State.removeBalancer
  repeat' split
  · exact h
  · exact removeQueued_keepsOrders h c e
  · exact h

theorem supersede_keepsOrders {s : State} (h : OrdersSound s) (c : ConnId) : OrdersSound (s.supersede c) := by
  unfold State.supersede
  repeat' split
  · exact h
  · exact removeQueued_keepsOrders h c _
  · exact h

theorem ite_keepsOrders {p : Prop} [Decidable p] {s t : State} (hs : OrdersSound s) (ht : OrdersSound t) :
    OrdersSound (if p then s else t) := by
  split
  · exact hs
  · exact ht

theorem attachRemovals_keepsOrders {s : State} (h : OrdersSound s) (c : ConnId) (old : Connection) :
    OrdersSound (s.attachRemovals c old) := by
  have lost := ite_keepsOrders (p := (s.conn c).presence.lost ∧ (s.conn c).presence ≠ old.presence)
    (removeBalancer_keepsOrders h c .notPresent) h
  have moved := ite_keepsOrders (p := (s.conn c).recordedPhase ≠ old.recordedPhase) (supersede_keepsOrders lost c) lost
  exact ite_keepsOrders (removeBalancer_keepsOrders moved c .withdrawn) moved

theorem meetReturn_keepsOrders {s : State} (h : OrdersSound s) (c : ConnId) : OrdersSound (s.meetReturn c) := by
  unfold State.meetReturn
  repeat' split
  · exact removeBalancer_keepsOrders h c _
  · exact h
  · exact removeBalancer_keepsOrders h c _

/-! ### The end of a transfer and the return of its order -/

theorem releaseContext_get (s : State) (k : CtxId) :
    (s.releaseContext k).transfers.get = Function.update s.transfers.get k none := by
  funext j
  cases k <;> cases j <;> rfl

theorem releaseContext_fireSlot (s : State) (k : CtxId) :
    (s.releaseContext k).transfers.fireSlot = slotWithout s.transfers.fireSlot k := by
  cases k <;> rfl

theorem releaseContext_nextDispatch (s : State) (k : CtxId) :
    (s.releaseContext k).transfers.nextDispatch = s.transfers.nextDispatch := by
  cases k <;> rfl

theorem raised_releaseContext {s : State}
    (h : Raised s.transfers.get s.transfers.fireSlot s.transfers.nextDispatch s.bus.outstanding) (k : CtxId) :
    Raised (s.releaseContext k).transfers.get (s.releaseContext k).transfers.fireSlot
      (s.releaseContext k).transfers.nextDispatch s.bus.outstanding := by
  rw [releaseContext_get, releaseContext_fireSlot, releaseContext_nextDispatch]
  exact h.release k

theorem raiseRelease_keepsOrders {s : State} (h : OrdersSound s) (c : ConnId) (n : Nat) :
    OrdersSound (s.raiseRelease c n) :=
  h.of_motions (motions_congr (by simp)) (by simp) (by simp) rfl

theorem endTransfer_motions (s : State) (k : CtxId) (x : Context) (e : Ending) (disarm : Bool) :
    motions (s.endTransfer k x e disarm) = Function.update (motions s) x.order.conn
      ((s.conn x.order.conn).afterEnding x.order.target (s.setting .settleInterval) e).motion := by
  rw [← motions_modConn s x.order.conn fun y => y.afterEnding x.order.target (s.setting .settleInterval) e]
  refine motions_congr ?_
  unfold State.endTransfer
  dsimp only
  split <;> simp

theorem endTransfer_transfers (s : State) (k : CtxId) (x : Context) (e : Ending) (disarm : Bool) :
    (s.endTransfer k x e disarm).transfers = (s.releaseContext k).transfers := by
  unfold State.endTransfer
  dsimp only
  split <;> simp [State.releaseContext]

theorem endTransfer_outstanding (s : State) (k : CtxId) (x : Context) (e : Ending) (disarm : Bool) :
    (s.endTransfer k x e disarm).bus.outstanding = s.bus.outstanding := by
  unfold State.endTransfer
  dsimp only
  split <;> simp [State.raiseRelease]

theorem endTransfer_keepsOrders {s : State} (h : OrdersSound s) {k : CtxId} {x : Context} (hx : s.context k = some x)
    (e : Ending) (disarm : Bool) : OrdersSound (s.endTransfer k x e disarm) := by
  obtain ⟨placed, raised⟩ := (ordersSound_iff s).mp h
  refine (ordersSound_iff _).mpr ?_
  rw [endTransfer_motions, endTransfer_transfers, endTransfer_outstanding, queuedConns_congr (s := s) (by simp)]
  refine ⟨?_, raised_releaseContext raised k⟩
  rw [releaseContext_get]
  exact (placed.release k).setMotion (placed.free_of_context hx) _

/-- An order is put among the others by its admission number. -/
theorem insertByAdmission_perm (o : Order) (l : List Order) : (insertByAdmission o l).Perm (o :: l) := by
  induction l with
  | nil => exact .refl _
  | cons q l ih =>
    unfold insertByAdmission
    split
    · exact (ih.cons q).trans (.swap o q l)
    · exact .refl _

theorem returnOrder_keepsOrders {s : State} (h : OrdersSound s) {k : CtxId} {x : Context} (hx : s.context k = some x)
    (unfired : x.state ≠ .fired) : OrdersSound (s.returnOrder k x) := by
  obtain ⟨placed, raised⟩ := (ordersSound_iff s).mp h
  refine meetReturn_keepsOrders ((ordersSound_iff _).mpr ⟨?_, ?_⟩) _
  · have perm : ((insertByAdmission x.order s.queue.orders).map (·.conn)).Perm (x.order.conn :: queuedConns s) :=
      (insertByAdmission_perm x.order s.queue.orders).map _
    have room : (queuedConns s).length + placesInFlight (Function.update s.transfers.get k none) < 16 := by
      have before := placed.room
      have places := placesInFlight_update (C := s.transfers.get) k none
      rw [show s.transfers.get k = some x from hx] at places
      simp only [placesKept, unfired, if_false] at places
      omega
    have joined := (placed.release k).join (placed.free_of_context hx) perm room
    rw [← releaseContext_get] at joined
    rw [motions_setMotion]
    simpa [queuedConns, motions_congr (s := s)] using joined
  · simpa using raised_releaseContext raised k

theorem disarmContext_keepsOrders {s : State} (h : OrdersSound s) {k : CtxId} {x : Context} (hx : s.context k = some x)
    (unfired : x.state ≠ .fired) : OrdersSound (s.disarmContext k x) := by
  unfold State.disarmContext
  split
  · exact endTransfer_keepsOrders h hx _ _
  · exact raiseRelease_keepsOrders (returnOrder_keepsOrders h hx unfired) _ _

theorem reachContext_keepsOrders {s : State} (h : OrdersSound s) (k : CtxId) : OrdersSound (s.reachContext k) := by
  unfold State.reachContext
  split
  · exact h
  · next x hx =>
    split
    · next reached =>
      simp only [State.reachable, Bool.and_eq_true, bne_iff_ne] at reached
      exact disarmContext_keepsOrders h hx reached.1
    · exact h

theorem reachContexts_keepsOrders {s : State} (h : OrdersSound s) : OrdersSound s.reachContexts := by
  have both : ∀ j k, OrdersSound ((s.reachContext j).reachContext k) := fun j k =>
    reachContext_keepsOrders (reachContext_keepsOrders h j) k
  unfold State.reachContexts
  repeat' split
  · exact both _ _
  · exact both _ _
  · exact both _ _

/-! ### A context goes on -/

/-- A request that some other raiser sends. -/
theorem ContextSound.unconcerned {slot : Option CtxId} {next : Nat} {out : Option Outstanding} {k : CtxId} {x : Context}
    (h : ContextSound slot next out k x) {o : Outstanding} (ho : o.raiser ≠ .context x.dispatchNumber) :
    ContextSound slot next (some o) k x :=
  { h with
    firing := fun _ hp hr => absurd hr (Option.some.inj hp ▸ ho)
    arming := fun _ hp hr => absurd hr (Option.some.inj hp ▸ ho) }

/-- A context goes on with its order under its number, and the motion of its connection with it. -/
theorem advanced_keepsOrders {s t : State} (h : OrdersSound s) {k : CtxId} {x y : Context} (hx : s.context k = some x)
    (order : y.order = x.order) (number : y.dispatchNumber = x.dispatchNumber)
    (state : x.state = .fired → y.state = .fired) {slot : Option CtxId}
    (here : ContextSound slot s.transfers.nextDispatch t.bus.outstanding k y)
    (others : ∀ j z, j ≠ k → s.context j = some z → z.dispatchNumber ≠ x.dispatchNumber →
      ContextSound slot s.transfers.nextDispatch t.bus.outstanding j z)
    (raiser : ∀ o n, t.bus.outstanding = some o → o.raiser = .context n → n < s.transfers.nextDispatch)
    (hq : t.queue = s.queue) (hm : motions t = Function.update (motions s) x.order.conn (motionOf y.state))
    (ht : t.transfers = { s.transfers.put k (some y) with fireSlot := slot }) : OrdersSound t := by
  obtain ⟨placed, raised⟩ := (ordersSound_iff s).mp h
  have get : t.transfers.get = Function.update s.transfers.get k (some y) := by
    rw [ht]
    funext j
    cases k <;> cases j <;> rfl
  have next : t.transfers.nextDispatch = s.transfers.nextDispatch := by
    rw [ht]
    exact Transfers.put_nextDispatch _ _ _
  refine (ordersSound_iff t).mpr ⟨?_, ?_⟩
  · rw [get, hm, queuedConns_congr hq]
    exact placed.advance hx order state
  · rw [get, next, ht]
    refine raised.update here (fun j z hj hz => ?_) raiser
    have apart := raised.number_ne hj hz hx
    exact ⟨others j z hj hz apart, number ▸ apart⟩

theorem motions_mirrored {s : State} (h : OrdersSound s) {k : CtxId} {x : Context} (hx : s.context k = some x) :
    motions s = Function.update (motions s) x.order.conn (motionOf x.state) := by
  obtain ⟨placed, -⟩ := (ordersSound_iff s).mp h
  rw [← placed.mirrored k x hx, Function.update_eq_self]

/-- What the agreement says of one context. -/
theorem OrdersSound.context {s : State} (h : OrdersSound s) {k : CtxId} {x : Context} (hx : s.context k = some x) :
    ContextSound s.transfers.fireSlot s.transfers.nextDispatch s.bus.outstanding k x :=
  ((ordersSound_iff s).mp h).2.context k x hx

theorem OrdersSound.raiser {s : State} (h : OrdersSound s) :
    ∀ o n, s.bus.outstanding = some o → o.raiser = .context n → n < s.transfers.nextDispatch :=
  ((ordersSound_iff s).mp h).2.raiser

/-- A context's record changes, its order, its number and its state kept. -/
theorem setContext_keepsOrders {s : State} (h : OrdersSound s) {k : CtxId} {x y : Context} (hx : s.context k = some x)
    (order : y.order = x.order) (number : y.dispatchNumber = x.dispatchNumber) (state : y.state = x.state)
    (here : ContextSound s.transfers.fireSlot s.transfers.nextDispatch s.bus.outstanding k y) :
    OrdersSound (s.setContext k (some y)) :=
  advanced_keepsOrders h hx order number (fun fired => state.trans fired) here
    (fun _ _ _ hz _ => h.context hz) h.raiser rfl (state ▸ motions_mirrored h hx) (by cases k <;> rfl)

/-! ### The fire slot, the dispatch choice and the arbiter -/

theorem takeFireSlot_keepsOrders {s : State} (h : OrdersSound s) : OrdersSound s.takeFireSlot := by
  unfold State.takeFireSlot
  split
  · next free =>
    split
    · next k x he =>
      obtain ⟨hx, armed⟩ := earliest_some s _ _ he
      simp only [beq_iff_eq] at hx armed
      simp only [Bool.and_eq_true, Option.isNone_iff_eq_none] at free
      have noSlot : ∀ j, s.transfers.fireSlot ≠ some j := fun j e => by rw [free.1] at e; cases e
      refine advanced_keepsOrders (y := { x with armDeadline := none, slot := some .fire }) h hx rfl rfl
        (fun fired => fired) ?_ ?_ h.raiser rfl ?_ rfl
      · have sound := h.context hx
        exact { sound with
          fired := fun _ => rfl
          fire := fun _ => ⟨armed, rfl⟩
          arm := nofun
          firing := fun o ho hr he => absurd (sound.firing o ho hr he).2.1 (noSlot k)
          arming := fun o ho hr q d a he => by
            have arming := (sound.arming o ho hr q d a he).1
            rw [armed] at arming
            cases arming }
      · intro j z _ hz _
        have sound := h.context hz
        exact { sound with
          fired := fun e => absurd (sound.fired e) (noSlot j)
          fire := fun e => absurd (sound.fire e).2 (noSlot j)
          firing := fun o ho hr he => absurd (sound.firing o ho hr he).2.1 (noSlot j) }
      · exact motions_mirrored h hx
    · exact h
  · exact h

theorem dispatch_motions (s : State) (k : CtxId) (o : Order) :
    motions (s.dispatch k o) = Function.update (motions s) o.conn .arming := by
  rw [← motions_setMotion]
  exact motions_congr (by simp [State.dispatch, State.setMotion, State.modConn, State.setConn, State.conn])

theorem dispatch_keepsOrders {s : State} (h : OrdersSound s) {k : CtxId} {o : Order} (hk : s.context k = none)
    (ho : o ∈ s.queue.orders) : OrdersSound (s.dispatch k o) := by
  obtain ⟨placed, raised⟩ := (ordersSound_iff s).mp h
  have get : (s.dispatch k o).transfers.get = Function.update s.transfers.get k (some (s.newContext o)) := by
    funext j
    cases k <;> cases j <;> rfl
  have queue : queuedConns (s.dispatch k o) = (queuedConns s).filter (· != o.conn) := by
    unfold queuedConns
    rw [← queuedConns_filter]
    simp [State.dispatch]
  have slot : (s.dispatch k o).transfers.fireSlot = s.transfers.fireSlot := by cases k <;> rfl
  have next : (s.dispatch k o).transfers.nextDispatch = s.transfers.nextDispatch + 1 := rfl
  have out : (s.dispatch k o).bus.outstanding = s.bus.outstanding := rfl
  have later : ∀ {n}, n < s.transfers.nextDispatch → n < s.transfers.nextDispatch + 1 := Nat.lt_succ_of_lt
  refine (ordersSound_iff _).mpr ⟨?_, ?_⟩
  · rw [get, queue, dispatch_motions]
    refine (placed.drop o.conn).fill (y := s.newContext o) hk (placed.drop_free (mem_queuedConns ho)) ?_
    have room := placed.room
    have one := length_drop (mem_queuedConns ho)
    simp only [placesKept, State.newContext, reduceCtorEq, if_false]
    omega
  · rw [get, slot, next, out]
    refine raised.update ?_ (fun j z _ hz => ?_) (fun p n hp hr => later (raised.raiser p n hp hr))
    · have unraised : ∀ p : Outstanding, s.bus.outstanding = some p →
          p.raiser ≠ .context (s.newContext o).dispatchNumber := fun p hp hr =>
        Nat.lt_irrefl _ (raised.raiser p _ hp hr)
      exact ⟨Nat.lt_succ_self _, nofun, nofun, fun _ => rfl, fun p hp hr => absurd hr (unraised p hp),
        fun p hp hr => absurd hr (unraised p hp)⟩
    · have sound := raised.context j z hz
      exact ⟨{ sound with number := later sound.number }, Nat.ne_of_lt sound.number⟩

theorem dispatchOnce_keepsOrders {s : State} (h : OrdersSound s) : OrdersSound s.dispatchOnce := by
  unfold State.dispatchOnce
  split
  · split
    · next k o hk ho => exact dispatch_keepsOrders h (freeContext_none s k hk) (bestOrder_mem s o ho)
    · exact h
  · exact h

theorem dispatchChoice_keepsOrders {s : State} (h : OrdersSound s) : OrdersSound s.dispatchChoice :=
  dispatchOnce_keepsOrders (dispatchOnce_keepsOrders h)

/-- A request that no context raised is sent on a free bus. -/
theorem send_keepsOrders {s : State} (h : OrdersSound s) (free : s.bus.outstanding = none) (c : ConnId) (r : BusRequest)
    {raiser : Raiser} (hr : ∀ n, raiser ≠ .context n) : OrdersSound (s.send c r raiser) := by
  obtain ⟨placed, raised⟩ := (ordersSound_iff s).mp h
  rw [free] at raised
  exact (ordersSound_iff _).mpr ⟨placed, raised.sentOther hr⟩

theorem withBus_keepsOrders {s : State} (h : OrdersSound s) {b : Bus} (hb : b.outstanding = s.bus.outstanding) :
    OrdersSound (s.withBus b) := h.of_motions rfl rfl rfl hb

theorem grantContext_keepsOrders {s : State} (h : OrdersSound s) {k : CtxId} {x : Context}
    (hx : s.context k = some x) {r : CtxRequest} (hr : x.slot = some r) : OrdersSound (s.grantContext k x r) := by
  have sound := h.context hx
  have granted : ∀ (y : Context) (c : ConnId) (q : BusRequest), y.order = x.order →
      y.dispatchNumber = x.dispatchNumber → y.state = x.state → y.slot = none →
      (q = .fire → r = .fire) → (∀ p d a, q = .arm p d a → r = .arm) →
      OrdersSound ((s.setContext k (some y)).send c q (.context x.dispatchNumber)) := by
    intro y c q order number state slot fire arm
    refine advanced_keepsOrders h hx order number (fun fired => state.trans fired) ?_ ?_ ?_ rfl
      (state ▸ motions_mirrored h hx) (by cases k <;> rfl)
    · refine ⟨number ▸ sound.number, fun e => sound.fired (state ▸ e), ?_, ?_, ?_, ?_⟩
      · rw [slot]; nofun
      · rw [slot]; nofun
      · rintro o ⟨⟩ - e
        have holder := sound.fire (fire e ▸ hr)
        exact ⟨state ▸ holder.1, holder.2, by rw [slot]; nofun⟩
      · rintro o ⟨⟩ - p d a e
        exact ⟨state ▸ sound.arm (arm p d a e ▸ hr), by rw [slot]; nofun⟩
    · intro j z _ hz number
      exact (h.context hz).unconcerned fun e => number (Raiser.context.inj e).symm
    · rintro o n ⟨⟩ e
      exact Raiser.context.inj e ▸ sound.number
  unfold State.grantContext
  cases r with
  | fire => exact granted _ _ _ rfl rfl rfl rfl (fun _ => rfl) nofun
  | confirm => exact granted _ _ _ rfl rfl rfl rfl nofun nofun
  | arm => exact granted _ _ _ rfl rfl rfl rfl nofun (fun _ _ _ _ => rfl)

theorem grantSurvey_keepsOrders {s : State} (h : OrdersSound s) (free : s.bus.outstanding = none) :
    OrdersSound s.grantSurvey := by
  unfold State.grantSurvey
  split
  · split
    · exact withBus_keepsOrders h rfl
    · exact send_keepsOrders (withBus_keepsOrders h rfl) free _ _ nofun
  · exact h

theorem grantRoutine_keepsOrders {s : State} (h : OrdersSound s) (free : s.bus.outstanding = none) :
    OrdersSound s.grantRoutine := by
  unfold State.grantRoutine
  split
  · dsimp only
    split
    · exact send_keepsOrders (withBus_keepsOrders h rfl) free _ _ nofun
    · exact grantSurvey_keepsOrders (withBus_keepsOrders h rfl) free
  · exact grantSurvey_keepsOrders h free

/-- A context whose request goes first has that request in its slot. -/
theorem waitingRequest_some {s : State} {r : CtxRequest} {k : CtxId} {x : Context}
    (h : s.waitingRequest r = some (k, x)) : s.context k = some x ∧ x.slot = some r := by
  obtain ⟨hx, hr⟩ := earliest_some s _ _ h
  exact ⟨hx, by simpa using hr⟩

theorem arbitrate_keepsOrders {s : State} (h : OrdersSound s) : OrdersSound s.arbitrate := by
  unfold State.arbitrate
  split
  · exact h
  · next busy =>
    have free : s.bus.outstanding = none := by simpa using busy
    have granted : ∀ {r k x}, s.waitingRequest r = some (k, x) → OrdersSound (s.grantContext k x r) := fun hw =>
      grantContext_keepsOrders h (waitingRequest_some hw).1 (waitingRequest_some hw).2
    split
    · next hw => exact granted hw
    · split
      · exact send_keepsOrders (withBus_keepsOrders h rfl) free _ _ nofun
      · split
        · next hw => exact granted hw
        · split
          · next hw => exact granted hw
          · exact grantRoutine_keepsOrders h free

theorem setLines_keepsOrders {s : State} (h : OrdersSound s) : OrdersSound s.setLines :=
  h.of_frame rfl rfl rfl rfl

theorem finish_keepsOrders {s : State} (h : OrdersSound s) : OrdersSound s.finish :=
  setLines_keepsOrders (arbitrate_keepsOrders (dispatchChoice_keepsOrders (takeFireSlot_keepsOrders h)))

end Sys2Proof.Claims

/-!
PROOFS. A reply, a lapse and a restart keep the orders' agreement.
-/

namespace Sys2Proof.Claims

open Sys2Proof.Machine

/-! ### A restart -/

/-- With no order anywhere and no request outstanding there is nothing to agree on. -/
theorem ordersSound_of_none {s : State} (hq : s.queue.orders = []) (ht : s.transfers = ⟨none, none, none, 1⟩)
    (hb : s.bus.outstanding = none) : OrdersSound s := by
  have noContext : ∀ k x, s.transfers.get k ≠ some x := by
    rw [ht]
    rintro (_ | _) x ⟨⟩
  have noQueue : queuedConns s = [] := by simp [queuedConns, hq]
  refine (ordersSound_iff s).mpr ⟨⟨?_, ?_, ?_, ?_, ?_⟩, ?_, ?_, ?_⟩
  · rw [noQueue]; exact List.nodup_nil
  · rw [noQueue]; nofun
  · exact fun k x hx => absurd hx (noContext k x)
  · exact fun j _ x _ hx => absurd hx (noContext j x)
  · rw [noQueue, ht]; decide
  · exact fun k x hx => absurd hx (noContext k x)
  · exact fun j _ x _ hx => absurd hx (noContext j x)
  · rw [hb]; nofun

theorem restartEffect_keepsOrders (s : State) : OrdersSound s.restartEffect := by
  have queue : s.restartEffect.queue = ⟨[], 0⟩ := by simp [State.restartEffect, State.restartBlocks]
  have transfers : s.restartEffect.transfers = ⟨none, none, none, 1⟩ := by
    simp [State.restartEffect, State.restartBlocks]
  exact ordersSound_of_none (by rw [queue]) transfers rfl

theorem finishTransfer_keepsOrders {s : State} (h : OrdersSound s) : OrdersSound s.finishTransfer := by
  have before := dispatchChoice_keepsOrders (takeFireSlot_keepsOrders h)
  have due : OrdersSound s.takeFireSlot.dispatchChoice.restartIfDue :=
    ite_keepsOrders (restartEffect_keepsOrders _) before
  exact setLines_keepsOrders (arbitrate_keepsOrders due)

/-! ### The presence machine and the connection record -/

theorem raiseIf_motions (s : State) (b : Bool) (a : Alarm) : motions (s.raiseIf b a) = motions s :=
  motions_congr (by simp)

theorem resetQuietCount_motions (s : State) : motions s.resetQuietCount = motions s := motions_congr (by simp)

theorem checkStray_motions (s : State) (c : ConnId) (r : PollReport) : motions (s.checkStray c r) = motions s :=
  motions_congr (by simp)

theorem enterMismatch_motions (s : State) (c : ConnId) (serial : Word) :
    motions (s.enterMismatch c serial) = motions s := by
  have alarm : motions (s.enterMismatch c serial) = motions (s.modConn c fun x => x.mismatch serial) :=
    motions_congr (by simp [State.enterMismatch])
  exact alarm.trans (motions_modConn_same s c rfl)

theorem answer_motion (x : Connection) (serial : Word) (hold : Nat) : (x.answer serial hold).motion = x.motion := by
  unfold Connection.answer
  split <;> rfl

theorem presenceReply_motions (s : State) (c : ConnId) (serial : Word) :
    motions (s.presenceReply c serial).1 = motions s := by
  unfold State.presenceReply
  dsimp only
  split
  · split
    · exact motions_setConn_same s c rfl
    · exact enterMismatch_motions s c serial
  · exact motions_setConn_same s c rfl
  all_goals
    split
    · exact motions_setConn_same s c (answer_motion _ _ _)
    · exact enterMismatch_motions s c serial

theorem presenceLapse_motions (s : State) (c : ConnId) : motions (s.presenceLapse c) = motions s := by
  unfold State.presenceLapse
  dsimp only
  repeat' split
  · exact motions_setConn_same s c rfl
  · exact motions_setConn_same s c rfl
  · rw [raiseIf_motions]
    exact motions_setConn_same s c rfl
  · exact motions_setConn_same s c rfl
  · rfl
  · rfl

theorem setLocal_motions (s : State) (c : ConnId) (engaged : Bool) : motions (s.setLocal c engaged) = motions s := by
  unfold State.setLocal
  exact motions_modConn_same s c rfl

theorem writeLog_motions (s : State) (c : ConnId) (a : Option Phase) (b : Phase) (src : Source)
    (t : Option TriggerId) (g : Option Nat) (e : LogOutcome) : motions (s.writeLog c a b src t g e) = motions s :=
  motions_congr (by simp)

theorem observeChange_motions (s : State) (c : ConnId) (p q : Phase) :
    motions (s.observeChange c p q) = motions s := by
  unfold State.observeChange State.startSettle
  dsimp only
  rw [resetQuietCount_motions, motions_modConn_same, motions_modConn_same, writeLog_motions, motions_modConn_same]
  all_goals rfl

theorem takePhase_motions (s : State) (c : ConnId) (r : PollReport) : motions (s.takePhase c r) = motions s := by
  unfold State.takePhase
  dsimp only
  repeat' split
  · exact motions_setConn_same s c rfl
  · rfl
  · exact motions_setConn_same s c rfl
  · exact observeChange_motions s c _ _
  · rfl
  · exact motions_setConn_same s c rfl
  · rfl

theorem takePoll_motions (s : State) (c : ConnId) (r : PollReport) : motions (s.takePoll c r) = motions s := by
  unfold State.takePoll
  rw [checkStray_motions, setLocal_motions, takePhase_motions]
  exact motions_modConn_same s c rfl

theorem takeContent_motions (s : State) (c : ConnId) (r : Reply) : motions (s.takeContent c r) = motions s := by
  unfold State.takeContent
  split
  · exact takePoll_motions s c _
  · exact setLocal_motions s c true
  all_goals rfl

/-! ### What is handed to a context -/

/-- What the agreement says of the contexts that raised a request, once the request has ended (R114). -/
def Answerable (s : State) (o : Outstanding) : Prop :=
  ∀ k x, s.context k = some x → o.raiser = .context x.dispatchNumber →
    (o.request = .fire → x.state = .armed ∧ s.transfers.fireSlot = some k ∧ x.slot ≠ some .fire)
      ∧ ∀ q dead hold, o.request = .arm q dead hold → x.state = .arming ∧ x.slot ≠ some .arm

theorem OrdersSound.answerable {s : State} (h : OrdersSound s) {o : Outstanding} (ho : s.bus.outstanding = some o) :
    Answerable s o := fun _ _ hx hr => ⟨(h.context hx).firing o ho hr, (h.context hx).arming o ho hr⟩

theorem Answerable.congr {s t : State} {o : Outstanding} (h : Answerable s o) (ht : t.transfers = s.transfers) :
    Answerable t o := by
  unfold Answerable
  simp only [State.context_congr ht, ht]
  exact h

theorem contextNumbered_some {s : State} {n : Nat} {k : CtxId} {x : Context}
    (h : s.contextNumbered n = some (k, x)) : s.context k = some x ∧ x.dispatchNumber = n :=
  ⟨(inFlight_mem s k x).mp (List.mem_of_find?_eq_some h), by simpa using List.find?_some h⟩

section
variable {s : State} {k : CtxId} {x : Context}

theorem takeArmed_keepsOrders (h : OrdersSound s) (free : s.bus.outstanding = none) (hx : s.context k = some x)
    (arming : x.state = .arming) (noArm : x.slot ≠ some .arm) (mismatch : Bool) :
    OrdersSound (s.takeArmed k x mismatch) := by
  have sound := h.context hx
  unfold State.takeArmed
  split
  · exact endTransfer_keepsOrders h hx _ _
  · refine advanced_keepsOrders (y := { x with state := .armed, armDeadline := x.armHoldSent }) h hx rfl rfl
      (fun fired => by rw [arming] at fired; cases fired) ?_ (fun _ _ _ hz _ => h.context hz) h.raiser rfl
      (motions_setMotion _ _ _) (by cases k <;> rfl)
    show ContextSound _ _ s.bus.outstanding _ _
    rw [free]
    exact ⟨sound.number, nofun, fun e => ⟨rfl, (sound.fire e).2⟩, fun e => absurd e noArm, nofun, nofun⟩

theorem takeFiring_keepsOrders (h : OrdersSound s) (free : s.bus.outstanding = none) (hx : s.context k = some x)
    (armed : x.state = .armed) (slot : s.transfers.fireSlot = some k) (noFire : x.slot ≠ some .fire) :
    OrdersSound (s.takeFiring k x) := by
  have sound := h.context hx
  have noArm : x.slot ≠ some .arm := fun e => by
    have arming := sound.arm e
    rw [armed] at arming
    cases arming
  unfold State.takeFiring
  refine advanced_keepsOrders (y := { x with
      state := .fired
      confirmDeadline := some (s.setting .confirmTimeout)
      confirmTimer := some Config.confirmInterval })
    h hx rfl rfl (fun _ => rfl) ?_ (fun _ _ _ hz _ => h.context hz) h.raiser rfl (motions_setMotion _ _ _)
    (by cases k <;> rfl)
  show ContextSound _ _ s.bus.outstanding _ _
  rw [free]
  exact ⟨sound.number, fun _ => slot, fun e => absurd e noFire,
    fun e => absurd e noArm, nofun, nofun⟩

theorem reArm_keepsOrders (h : OrdersSound s) (free : s.bus.outstanding = none) (hx : s.context k = some x)
    (armed : x.state = .armed) : OrdersSound (s.reArm k x) := by
  have sound := h.context hx
  unfold State.reArm
  refine advanced_keepsOrders (slot := slotWithout s.transfers.fireSlot k)
    (y := { x with state := .arming, retries := 0, reArmUsed := true, slot := some .arm })
    h hx rfl rfl (fun fired => by rw [armed] at fired; cases fired) ?_ (fun _ _ hj hz _ => (h.context hz).other hj)
    h.raiser rfl (motions_setMotion _ _ _) (by cases k <;> rfl)
  show ContextSound _ _ s.bus.outstanding _ _
  rw [free]
  exact ⟨sound.number, nofun, nofun, fun _ => rfl, nofun, nofun⟩

theorem takeNotArmed_keepsOrders (h : OrdersSound s) (free : s.bus.outstanding = none) (hx : s.context k = some x)
    (armed : x.state = .armed) (mismatch : Bool) : OrdersSound (s.takeNotArmed k x mismatch) := by
  unfold State.takeNotArmed
  repeat' split
  · exact endTransfer_keepsOrders h hx _ _
  · exact endTransfer_keepsOrders h hx _ _
  · exact endTransfer_keepsOrders h hx _ _
  · exact reArm_keepsOrders h free hx armed
  · exact disarmContext_keepsOrders h hx (by rw [armed]; decide)

theorem takeRefusal_keepsOrders (h : OrdersSound s) (hx : s.context k = some x) (reason : ArmRefusal)
    (mismatch : Bool) : OrdersSound (s.takeRefusal k x reason mismatch) := by
  unfold State.takeRefusal
  split <;> exact endTransfer_keepsOrders h hx _ _

theorem takeConfirm_keepsOrders (h : OrdersSound s) (hx : s.context k = some x) (r : PollReport) (mismatch : Bool) :
    OrdersSound (s.takeConfirm k x r mismatch) := by
  unfold State.takeConfirm
  repeat' split
  · exact h
  · exact endTransfer_keepsOrders h hx _ _
  · exact h

/-- A lapsed request of a context is raised again. -/
theorem raisedAgain_keepsOrders (h : OrdersSound s) (free : s.bus.outstanding = none) (hx : s.context k = some x)
    {y : Context} (order : y.order = x.order) (number : y.dispatchNumber = x.dispatchNumber) (state : y.state = x.state)
    (fire : y.slot = some .fire → x.state = .armed ∧ s.transfers.fireSlot = some k)
    (arm : y.slot = some .arm → x.state = .arming) : OrdersSound (s.setContext k (some y)) := by
  have sound := h.context hx
  refine setContext_keepsOrders h hx order number state ?_
  rw [free]
  exact ⟨number ▸ sound.number, fun e => sound.fired (state ▸ e), fun e => state ▸ fire e, fun e => state ▸ arm e,
    nofun, nofun⟩

theorem lapseArm_keepsOrders (h : OrdersSound s) (free : s.bus.outstanding = none) (hx : s.context k = some x)
    (arming : x.state = .arming) : OrdersSound (s.lapseArm k x) := by
  unfold State.lapseArm
  split
  · exact raisedAgain_keepsOrders h free hx rfl rfl rfl nofun fun _ => arming
  · exact endTransfer_keepsOrders h hx _ _

theorem lapseFire_keepsOrders (h : OrdersSound s) (free : s.bus.outstanding = none) (hx : s.context k = some x)
    (armed : x.state = .armed) (slot : s.transfers.fireSlot = some k) : OrdersSound (s.lapseFire k x) := by
  unfold State.lapseFire
  split
  · exact raisedAgain_keepsOrders h free hx rfl rfl rfl (fun _ => ⟨armed, slot⟩) nofun
  · exact endTransfer_keepsOrders h hx _ _

end

theorem endSurveyPoll_keepsOrders {s : State} (h : OrdersSound s) : OrdersSound s.endSurveyPoll :=
  ite_keepsOrders (withBus_keepsOrders h rfl) h

theorem handReply_keepsOrders {s : State} (h : OrdersSound s) (free : s.bus.outstanding = none) {o : Outstanding}
    (ho : Answerable s o) {r : Reply} (hr : r.answers o.request = true) (mismatch : Bool) :
    OrdersSound (s.handReply o r mismatch) := by
  unfold State.handReply
  split
  · next n raiser =>
    split
    · exact h
    · next k x found =>
      obtain ⟨hx, rfl⟩ := contextNumbered_some found
      obtain ⟨firing, arming⟩ := ho k x hx raiser
      cases hq : o.request with
      | poll => cases r <;> rw [hq] at hr <;> cases hr; exact takeConfirm_keepsOrders h hx _ _
      | arm q dead hold =>
        obtain ⟨state, noArm⟩ := arming q dead hold hq
        cases r <;> rw [hq] at hr <;> cases hr
        · exact takeArmed_keepsOrders h free hx state noArm _
        · exact takeRefusal_keepsOrders h hx _ _
      | fire =>
        obtain ⟨state, slot, noFire⟩ := firing hq
        cases r <;> rw [hq] at hr <;> cases hr
        · exact takeFiring_keepsOrders h free hx state slot noFire
        · exact takeNotArmed_keepsOrders h free hx state _
      | disarm => cases r <;> rw [hq] at hr <;> cases hr; exact h
  · exact endSurveyPoll_keepsOrders h
  · exact h
  · exact h

theorem handLapse_keepsOrders {s : State} (h : OrdersSound s) (free : s.bus.outstanding = none) {o : Outstanding}
    (ho : Answerable s o) : OrdersSound (s.handLapse o) := by
  unfold State.handLapse
  split
  · next n raiser =>
    split
    · exact h
    · next k x found =>
      obtain ⟨hx, rfl⟩ := contextNumbered_some found
      obtain ⟨firing, arming⟩ := ho k x hx raiser
      split
      · next q dead hold hq => exact lapseArm_keepsOrders h free hx (arming q dead hold hq).1
      · next hq => exact lapseFire_keepsOrders h free hx (firing hq).1 (firing hq).2.1
      · exact h
      · exact h
  · exact endSurveyPoll_keepsOrders h
  · exact h
  · exact h

theorem endOutstanding_keepsOrders {s : State} (h : OrdersSound s) : OrdersSound s.endOutstanding := by
  obtain ⟨placed, raised⟩ := (ordersSound_iff s).mp h
  exact (ordersSound_iff _).mpr ⟨placed, raised.ended⟩

theorem takeContent_outstanding (s : State) (c : ConnId) (r : Reply) :
    (s.takeContent c r).bus.outstanding = s.bus.outstanding := by
  have stray : ∀ (u : State) q, (u.checkStray c q).bus.outstanding = u.bus.outstanding := by
    intro u q
    unfold State.checkStray State.raiseStray
    repeat' split
    all_goals rfl
  unfold State.takeContent
  split
  · simp [State.takePoll, stray]
  all_goals simp

theorem goodReply_keepsOrders {s : State} (h : OrdersSound s) {o : Outstanding} (ho : s.bus.outstanding = some o)
    (serial : Word) {r : Reply} (hr : r.answers o.request = true) : OrdersSound (s.goodReply o serial r) := by
  have ended := endOutstanding_keepsOrders h
  have answerable : Answerable s.endOutstanding o := (h.answerable ho).congr rfl
  unfold State.goodReply
  dsimp only
  split
  · refine finishTransfer_keepsOrders (attachRemovals_keepsOrders ?_ _ _)
    have seen := ended.of_motions (presenceReply_motions _ o.conn serial) (by simp) (by simp) (by simp)
    split
    · exact handReply_keepsOrders seen (by simp [State.endOutstanding]) (answerable.congr (by simp)) hr _
    · refine handReply_keepsOrders ?_ (by simp [takeContent_outstanding, State.endOutstanding])
        (answerable.congr (by simp)) hr _
      exact seen.of_motions (takeContent_motions _ _ _) (by simp) (by simp) (takeContent_outstanding _ _ _)
  · exact finishTransfer_keepsOrders (ite_keepsOrders (endSurveyPoll_keepsOrders ended) ended)

theorem lapseOutstanding_keepsOrders {s : State} (h : OrdersSound s) {o : Outstanding}
    (ho : s.bus.outstanding = some o) : OrdersSound (s.lapseOutstanding o) := by
  have ended := endOutstanding_keepsOrders h
  have answerable : Answerable s.endOutstanding o := (h.answerable ho).congr rfl
  unfold State.lapseOutstanding
  dsimp only
  split
  · refine finishTransfer_keepsOrders (attachRemovals_keepsOrders ?_ _ _)
    have seen := ended.of_motions (presenceLapse_motions _ o.conn) (by simp) (by simp) (by simp)
    exact handLapse_keepsOrders seen (by simp [State.endOutstanding]) (answerable.congr (by simp))
  · exact finishTransfer_keepsOrders (ite_keepsOrders (endSurveyPoll_keepsOrders ended) ended)

end Sys2Proof.Claims

/-!
PROOFS. Admission, the balance engine's passes, the requests and the events keep the orders' agreement; so does every
step.
-/

namespace Sys2Proof.Claims

open Sys2Proof.Machine

/-! ### Admission -/

theorem occupancy_eq (s : State) : s.occupancy = (queuedConns s).length + placesInFlight s.transfers.get := by
  simp [State.occupancy, queuedConns, unfiredContexts_eq]

theorem enqueue_motions (s : State) (c : ConnId) (target : Phase) (src : Source) (priority life : Nat)
    (trigger : Option TriggerId) (gain : Option Nat) :
    motions (s.enqueue c target src priority life trigger gain) = Function.update (motions s) c .queued :=
  motions_setMotion _ c .queued

/-- A connection without an order gets one, while there is room. -/
theorem enqueue_keepsOrders {s : State} (h : OrdersSound s) {c : ConnId} (free : Free (queuedConns s) s.transfers.get c)
    (room : s.occupancy < Config.queueRoom) (target : Phase) (src : Source) (priority life : Nat)
    (trigger : Option TriggerId) (gain : Option Nat) :
    OrdersSound (s.enqueue c target src priority life trigger gain) := by
  obtain ⟨placed, raised⟩ := (ordersSound_iff s).mp h
  rw [occupancy_eq] at room
  have queue : queuedConns (s.enqueue c target src priority life trigger gain) = queuedConns s ++ [c] := by
    simp [queuedConns, State.enqueue]
  refine (ordersSound_iff _).mpr ⟨?_, raised⟩
  rw [queue, enqueue_motions]
  exact placed.join free (List.perm_append_singleton c _) room

/-! ### The balance engine -/

/-- A step of the search chooses an eligible connection that is not chosen yet (R57). -/
theorem choose_some {i : PassInput} {es : List Machine.Eligible} {p : PerPhase Int} {chosen : List ConnId}
    {m : Candidate} (h : choose i es p chosen = some m) : m.elig ∈ es ∧ m.elig.conn ∉ chosen := by
  unfold choose at h
  split at h
  · cases h
  · next a l hl =>
    have member : m ∈ (candidates es).filter fun m => m.admissible i p chosen := by
      rw [hl, ← Option.some.inj h]
      rcases foldl_pick (fun n best : Candidate => n.before best p) l a with e | e
      · rw [e]; exact List.mem_cons_self
      · exact List.mem_cons_of_mem _ e
    obtain ⟨candidate, admissible⟩ := List.mem_filter.mp member
    refine ⟨?_, ?_⟩
    · obtain ⟨e, he, hm⟩ := List.mem_flatMap.mp candidate
      obtain ⟨b, -, rfl⟩ := List.mem_map.mp hm
      exact he
    · simp only [Candidate.admissible, Bool.and_eq_true, Bool.not_eq_true', List.contains_eq_mem,
        decide_eq_false_iff_not] at admissible
      exact admissible.2

/-- The connections of a plan are eligible, not chosen before, and each chosen once (R57, R61). -/
theorem search_plan (i : PassInput) (es : List Machine.Eligible) (depth : Nat) (p : PerPhase Int)
    (chosen : List ConnId) :
    (∀ c ∈ (search i es depth p chosen).plan.map (·.conn), c ∈ es.map (·.conn) ∧ c ∉ chosen)
      ∧ ((search i es depth p chosen).plan.map (·.conn)).Nodup := by
  induction depth generalizing p chosen with
  | zero => exact ⟨nofun, List.nodup_nil⟩
  | succ depth ih =>
    unfold search
    split
    · exact ⟨nofun, List.nodup_nil⟩
    · next m hm =>
      obtain ⟨eligible, fresh⟩ := choose_some hm
      obtain ⟨later, nodup⟩ := ih (m.after p) (m.elig.conn :: chosen)
      simp only [List.map_cons, List.mem_cons, forall_eq_or_imp, List.nodup_cons]
      refine ⟨⟨⟨List.mem_map_of_mem eligible, fresh⟩, fun c hc => ?_⟩, fun hc => ?_, nodup⟩
      · exact ⟨(later c hc).1, fun old => (later c hc).2 (List.mem_cons_of_mem _ old)⟩
      · exact (later _ hc).2 List.mem_cons_self

/-- A pass considers only IDLE connections (R17). -/
theorem eligible_idle {s : State} {c : ConnId} (h : c ∈ (allConns.filterMap s.eligible).map (·.conn)) :
    motions s c = .idle := by
  obtain ⟨e, he, rfl⟩ := List.mem_map.mp h
  obtain ⟨d, -, hd⟩ := List.mem_filterMap.mp he
  unfold State.eligible at hd
  split at hd
  · next passes =>
    split at hd
    · cases hd
      simp only [State.eligibleForPass, Bool.and_eq_true, beq_iff_eq] at passes
      exact passes.1.1.1.1.2
    · cases hd
  · cases hd

/-- A plan's orders are placed one at a time, each for an IDLE connection. -/
theorem offer_keepsOrders (trigger : Option TriggerId) (plan : List PlanEntry) {s : State} (h : OrdersSound s)
    (idle : ∀ c ∈ plan.map (·.conn), motions s c = .idle) (nodup : (plan.map (·.conn)).Nodup) :
    OrdersSound (s.offer trigger plan).1 := by
  induction plan generalizing s with
  | nil => exact h
  | cons e plan ih =>
    simp only [List.map_cons, List.mem_cons, forall_eq_or_imp, List.nodup_cons] at idle nodup
    unfold State.offer
    split
    · next room =>
      have free := ((ordersSound_iff s).mp h).1.free_of_motion (c := e.conn) (by rw [idle.1]; decide)
        (by rw [idle.1]; rfl)
      refine ih (enqueue_keepsOrders h free room _ _ _ _ _ _) (fun c hc => ?_) nodup.2
      rw [enqueue_motions, Function.update_of_ne fun e' : c = e.conn => nodup.1 (e' ▸ hc)]
      exact idle.2 c hc
    · exact h

theorem withEngine_keepsOrders {s : State} (h : OrdersSound s) (e : Engine) : OrdersSound (s.withEngine e) :=
  h.of_frame rfl rfl rfl rfl

theorem runPass_keepsOrders {s : State} (h : OrdersSound s) (trigger : Option TriggerId) :
    OrdersSound (s.runPass trigger) := by
  obtain ⟨eligible, nodup⟩ := search_plan s.passInput (allConns.filterMap s.eligible) (s.setting .planDepth)
    (s.metering.phases.map (·.power)) []
  exact withEngine_keepsOrders
    (offer_keepsOrders trigger _ h (fun c hc => eligible_idle (eligible c hc).1) nodup) _

theorem passDue_keepsOrders {s : State} (h : OrdersSound s) (trigger : Option TriggerId) :
    OrdersSound (s.passDue trigger) :=
  ite_keepsOrders (withEngine_keepsOrders h _) (runPass_keepsOrders h trigger)

theorem watchWindow_keepsOrders {s : State} (h : OrdersSound s) (fired : Option TriggerId) :
    OrdersSound (s.watchWindow fired) := by
  unfold State.watchWindow
  repeat' split
  · exact passDue_keepsOrders h _
  · exact passDue_keepsOrders h _
  · exact withEngine_keepsOrders h _
  · exact withEngine_keepsOrders h _

theorem enterWatch_keepsOrders {s : State} (h : OrdersSound s) : OrdersSound s.enterWatch := by
  unfold State.enterWatch
  dsimp only
  split
  · exact passDue_keepsOrders (withEngine_keepsOrders h _) _
  · exact withEngine_keepsOrders h _

theorem countQuiet_keepsOrders {s : State} (h : OrdersSound s) : OrdersSound s.countQuiet :=
  ite_keepsOrders (enterWatch_keepsOrders h) (withEngine_keepsOrders h _)

theorem stateWork_keepsOrders {s : State} (h : OrdersSound s) (fired : Option TriggerId) (entered : Bool) :
    OrdersSound (s.stateWork fired entered) := by
  have noted : OrdersSound (s.notePending fired) := withEngine_keepsOrders h _
  unfold State.stateWork
  split
  · exact watchWindow_keepsOrders h fired
  · exact noted
  · exact ite_keepsOrders noted (countQuiet_keepsOrders noted)
  all_goals exact h

theorem reviewStopping_keepsOrders {s : State} (h : OrdersSound s) : OrdersSound s.reviewStopping :=
  h.of_frame (by simp) (by simp) (by simp) (by simp)

theorem engineWindow_keepsOrders {s : State} (h : OrdersSound s) : OrdersSound s.engineWindow := by
  unfold State.engineWindow
  exact stateWork_keepsOrders (h.of_frame (by simp) (by simp) (by simp) (by simp)) _ _

theorem acceptWindow_keepsOrders {s : State} (h : OrdersSound s) (r : WindowRecord) :
    OrdersSound (s.acceptWindow r) := by
  unfold State.acceptWindow
  exact finish_keepsOrders (engineWindow_keepsOrders (h.of_frame (by simp) (by simp) (by simp) (by simp)))

/-! ### The requests (R91 to R102, R159, R160, R19, R151, R156, R191) -/

/-- A MOVE that passes checks 5 to 7 of R91 names a connection with no transfer in flight that is not FAULTED. -/
theorem moveRefusal_none {s : State} {p : Port} {c : ConnId} {target : Phase} {priority : Nat}
    (h : s.moveRefusal p c target priority = none) : (s.conn c).motion.inFlight = false := by
  by_contra flight
  rw [Bool.not_eq_false] at flight
  simp only [State.moveRefusal, flight, if_true] at h
  repeat' split at h
  all_goals cases h

theorem replaceOrder_queuedConns (s : State) (o : Order) :
    queuedConns (s.replaceOrder o) = (queuedConns s).filter (· != o.conn) := by
  unfold queuedConns
  rw [← queuedConns_filter]
  simp [State.replaceOrder, State.dropOrder]

theorem replaceOrder_keepsOrders {s : State} (h : OrdersSound s) (o : Order) : OrdersSound (s.replaceOrder o) := by
  obtain ⟨placed, raised⟩ := (ordersSound_iff s).mp h
  refine (ordersSound_iff _).mpr ⟨?_, by simpa using raised⟩
  rw [replaceOrder_queuedConns, motions_congr (s := s) (by simp)]
  simpa using placed.drop o.conn

theorem removed_queuedConns (s : State) (o : Order) (e : LogOutcome) :
    queuedConns (removed s o e) = (queuedConns s).filter (· != o.conn) := by
  unfold removed
  rw [engineTold_frame]
  exact queuedConns_filter _ _

theorem removed_motions (s : State) (o : Order) (e : LogOutcome) :
    motions (removed s o e) = Function.update (motions s) o.conn .idle := by
  unfold removed
  rw [engineTold_frame]
  exact motions_setConn s o.conn { s.conn o.conn with motion := .idle }

theorem removed_transfers (s : State) (o : Order) (e : LogOutcome) : (removed s o e).transfers = s.transfers := by
  unfold removed
  rw [engineTold_frame]

/-- An order of the queue for each place: an eviction is of a queued order (R93). -/
theorem evictee_mem {s : State} {e : Order} (h : s.evictee = some e) : e ∈ s.queue.orders := by
  unfold State.evictee at h
  split at h
  · cases h
  · next a l hl =>
    have member : e ∈ s.queue.orders.filter fun o => o.source == .balancer := by
      rw [hl, ← Option.some.inj h]
      rcases foldl_pick (fun p worst : Order => decide (p.priority < worst.priority ∨
        (p.priority = worst.priority ∧ worst.conn < p.conn))) l a with e | e
      · simp only [decide_eq_true_eq] at e
        rw [e]; exact List.mem_cons_self
      · simp only [decide_eq_true_eq] at e
        exact List.mem_cons_of_mem _ e
    exact (List.mem_filter.mp member).1

/-- Placing a MOVE keeps the agreement: its connection has no order by then, and there is room for one (R92 to R95). -/
theorem placeMove_keepsOrders {s : State} (h : OrdersSound s) (p : Port) {c : ConnId}
    (flight : (s.conn c).motion.inFlight = false) (target : Phase) (priority life : Nat) :
    OrdersSound (s.placeMove p c target priority life).state := by
  obtain ⟨placed, -⟩ := (ordersSound_iff s).mp h
  have bound := occupancy_eq s ▸ placed.room
  have admitted : ∀ {u : State} (how evicted : Byte), OrdersSound u → Free (queuedConns u) u.transfers.get c →
      u.occupancy < Config.queueRoom → OrdersSound (u.admitMove p c target priority life how evicted).state :=
    fun _ _ sound free room => finish_keepsOrders (enqueue_keepsOrders sound free room _ _ _ _ _ _)
  unfold State.placeMove
  split
  · next o ho =>
    obtain ⟨member, rfl⟩ := queuedOrder_some ho
    have shorter := length_drop (mem_queuedConns member)
    split
    · refine admitted _ _ (replaceOrder_keepsOrders h o) ?_ ?_
      · rw [replaceOrder_queuedConns]
        simpa using placed.drop_free (mem_queuedConns member)
      · rw [occupancy_eq] at bound ⊢
        rw [replaceOrder_queuedConns]
        simp only [State.replaceOrder_frame, Config.queueRoom]
        omega
    · exact h
  · next ho =>
    have absent := queuedOrder_none.mp ho
    split
    · next room => exact admitted _ _ h (placed.free_of_unqueued absent flight) room
    · split
      · next e he =>
        have member := evictee_mem he
        have shorter := length_drop (mem_queuedConns member)
        have other : c ≠ e.conn := fun same => absent (same ▸ mem_queuedConns member)
        obtain ⟨o, ho⟩ : ∃ o, s.queuedOrder e.conn = some o :=
          Option.ne_none_iff_exists'.mp fun none => queuedOrder_none.mp none (mem_queuedConns member)
        have here : o.conn = e.conn := (queuedOrder_some ho).2
        have sound := removeQueued_keepsOrders h e.conn .evicted
        rw [removeQueued_eq_removed ho] at sound ⊢
        refine admitted _ _ sound ?_ ?_
        · refine ((ordersSound_iff _).mp sound).1.free_of_unqueued (fun hc => ?_) ?_
          · rw [removed_queuedConns] at hc
            exact absent (List.mem_filter.mp hc).1
          · rw [removed_motions, here, Function.update_of_ne other]
            exact flight
        · rw [occupancy_eq] at bound ⊢
          rw [removed_queuedConns, removed_transfers, here]
          simp only [Config.queueRoom]
          omega
      · exact h

theorem serveMove_keepsOrders {s : State} (h : OrdersSound s) (p : Port) (n target priority : Byte) (life : Half) :
    OrdersSound (serveMove p n target priority life s).state := by
  unfold serveMove
  split
  · exact h
  · split
    · exact h
    · split
      · exact h
      · split
        · exact h
        · next passed => exact placeMove_keepsOrders h p (moveRefusal_none passed) _ _ _

/-- The record of a connection without an order is written. -/
theorem setConn_keepsOrders {s : State} (h : OrdersSound s) {c : ConnId} (queued : (s.conn c).motion ≠ .queued)
    (flight : (s.conn c).motion.inFlight = false) (x : Connection) : OrdersSound (s.setConn c x) := by
  obtain ⟨placed, raised⟩ := (ordersSound_iff s).mp h
  refine (ordersSound_iff _).mpr ⟨?_, by simpa using raised⟩
  rw [motions_setConn, queuedConns_congr (s := s) (by simp)]
  simpa using placed.setMotion (placed.free_of_motion queued flight) x.motion

theorem serveClearFault_keepsOrders {s : State} (h : OrdersSound s) (n : Byte) :
    OrdersSound (serveClearFault n s).state := by
  unfold serveClearFault
  split
  · exact h
  · dsimp only
    split
    · exact h
    · next faulted =>
      have faulted := not_not.mp faulted
      split
      · exact setConn_keepsOrders h (by rw [faulted]; decide) (by rw [faulted]; rfl) _
      · exact h

theorem serveWriteConnection_keepsOrders {s : State} (h : OrdersSound s) (n kind allowed : Byte) (serial : Word) :
    OrdersSound (serveWriteConnection n kind allowed serial s).state := by
  unfold serveWriteConnection
  split
  · exact h
  · split
    · exact h
    · split
      · exact h
      · next ordered =>
        push Not at ordered
        split
        · exact h
        · have written := fun st => h.of_frame (t := s.withSettings st) rfl rfl rfl rfl
          exact ite_keepsOrders (setConn_keepsOrders (written _) ordered.1 (Bool.not_eq_true _ ▸ ordered.2) _)
            (written _)

theorem setPriority_keepsOrders {s : State} (h : OrdersSound s) (c : ConnId) (priority : Nat) :
    OrdersSound (s.setPriority c priority) := by
  refine h.congr ?_ rfl rfl rfl
  simp only [queuedConns, State.setPriority, State.withQueue_queue, List.map_map]
  refine List.map_congr_left fun o _ => ?_
  simp only [Function.comp_apply]
  split <;> rfl

theorem setPin_keepsOrders {s : State} (h : OrdersSound s) (c : ConnId) (p : Port) (b : Bool) :
    OrdersSound (s.setPin c p b) :=
  h.of_motions (motions_modConn_same s c rfl) (by simp) (by simp) (by simp)

theorem startRound_keepsOrders {s : State} (h : OrdersSound s) : OrdersSound s.startRound := withBus_keepsOrders h rfl

theorem restartSurveyTimer_keepsOrders {s : State} (h : OrdersSound s) : OrdersSound s.restartSurveyTimer :=
  withBus_keepsOrders h rfl

theorem raise_keepsOrders {s : State} (h : OrdersSound s) (a : Alarm) : OrdersSound (s.raise a) :=
  h.of_frame rfl rfl rfl rfl

theorem holdBegins_keepsOrders {s : State} (h : OrdersSound s) : OrdersSound s.holdBegins :=
  finish_keepsOrders (raise_keepsOrders (reachContexts_keepsOrders (reviewStopping_keepsOrders h)) _)

theorem holdEnds_keepsOrders {s : State} (h : OrdersSound s) : OrdersSound s.holdEnds :=
  finish_keepsOrders (reviewStopping_keepsOrders (raise_keepsOrders h _))

theorem clearToday_keepsOrders {s : State} (h : OrdersSound s) : OrdersSound s.clearToday :=
  h.of_motions (motions_mapConns_same s fun _ _ => rfl) (by simp) (by simp) (by simp)

theorem setPartTime_keepsOrders {s : State} (h : OrdersSound s) (t : Word) : OrdersSound (s.setPartTime t) := by
  have set : OrdersSound (s.withPartTime t) := h.of_frame rfl rfl rfl rfl
  exact ite_keepsOrders set (clearToday_keepsOrders set)

theorem serve_keepsOrders (c : Command) (p : Port) (params : List Byte) {s : State}
    (fits : params.length = c.paramBytes) (h : OrdersSound s) : OrdersSound (serve c p params s).state := by
  apply serve_cases_of_reads (fits := fits)
  case same => exact h
  case move => exact fun _ _ _ _ => serveMove_keepsOrders h p _ _ _ _
  case clearFault => exact fun _ => serveClearFault_keepsOrders h _
  case writeConnection => exact fun _ _ _ _ => serveWriteConnection_keepsOrders h _ _ _ _
  case cancel =>
    intro n
    unfold serveCancel
    split
    · exact h
    · split
      · exact finish_keepsOrders (removeQueued_keepsOrders h _ _)
      · split <;> exact h
  case reprioritize =>
    intro n priority
    unfold serveReprioritize
    split
    · exact h
    · split
      · exact h
      · split
        · exact finish_keepsOrders (setPriority_keepsOrders h _ _)
        · split <;> exact h
  case pin =>
    intro n
    unfold servePin
    split
    · exact h
    · split
      · exact h
      · split
        · exact h
        · exact finish_keepsOrders (removeBalancer_keepsOrders (setPin_keepsOrders h _ _ _) _ _)
  case unpin =>
    intro n
    unfold serveUnpin
    split
    · exact h
    · split
      · exact finish_keepsOrders (setPin_keepsOrders h _ _ _)
      · exact h
  case unpinAll =>
    unfold serveUnpinAll
    dsimp only
    split
    · exact h
    · exact finish_keepsOrders
        (h.of_motions (motions_mapConns_same s fun _ _ => rfl) (by simp) (by simp) (by simp))
  case hold =>
    have held : OrdersSound (s.withHold (s.hold.put p true)) := h.of_frame rfl rfl rfl rfl
    exact ite_keepsOrders (holdBegins_keepsOrders held) held
  case release =>
    have held : OrdersSound (s.withHold (s.hold.put p false)) := h.of_frame rfl rfl rfl rfl
    exact ite_keepsOrders (holdEnds_keepsOrders held) held
  case pause =>
    unfold servePause
    split
    · exact h
    · exact reviewStopping_keepsOrders (withEngine_keepsOrders h _)
  case resume =>
    unfold serveResume
    split
    · exact reviewStopping_keepsOrders (withEngine_keepsOrders h _)
    · exact h
  case survey =>
    unfold serveSurvey
    split
    · exact h
    · exact arbitrate_keepsOrders (restartSurveyTimer_keepsOrders (startRound_keepsOrders h))
  case clearAlarms => exact fun _ => h.of_frame rfl rfl rfl rfl
  case setAlarmMask => exact fun _ => h.of_frame rfl rfl rfl rfl
  case writeSetting =>
    intro n value
    unfold serveWriteSetting
    split
    · exact h
    · split
      · exact h
      · split
        · exact h
        · next id _ _ v _ _ =>
          have stored : OrdersSound (s.withSettings (s.settings.store id v).1) := h.of_frame rfl rfl rfl rfl
          exact ite_keepsOrders (reviewStopping_keepsOrders stored) (ite_keepsOrders (finish_keepsOrders stored) stored)
  case writeTrigger =>
    intro n enabled phases quantity comparison threshold persistence
    unfold serveWriteTrigger
    split
    · split
      · exact h
      · split
        · exact h
        · exact h.of_frame rfl rfl rfl rfl
    · exact h
  case saveSettings =>
    unfold serveSaveSettings
    split
    · exact h
    · exact h.of_frame rfl rfl rfl rfl
  case restart =>
    unfold serveRestart
    split
    · exact h
    · exact reachContexts_keepsOrders (h.of_frame rfl rfl rfl rfl)
  case setTime =>
    intro t
    have set := setPartTime_keepsOrders h t
    exact ite_keepsOrders set (finish_keepsOrders set)

/-! ### The events -/

theorem expireSurveyTimer_keepsOrders {s : State} (h : OrdersSound s) : OrdersSound s.expireSurveyTimer :=
  restartSurveyTimer_keepsOrders (ite_keepsOrders h (startRound_keepsOrders h))

theorem surveySecond_keepsOrders {s : State} (h : OrdersSound s) : OrdersSound s.surveySecond :=
  ite_keepsOrders (expireSurveyTimer_keepsOrders h) (withBus_keepsOrders h rfl)

theorem ageOrders_keepsOrders {s : State} (h : OrdersSound s) : OrdersSound s.ageOrders := by
  refine foldl_keeps_prop (P := OrdersSound) (fun u (o : Order) hu => removeQueued_keepsOrders hu o.conn .expired) _ ?_
  refine h.congr ?_ rfl rfl rfl
  simp [queuedConns, Function.comp_def]

theorem second_motion (x : Connection) : x.second.motion = x.motion := by
  unfold Connection.second
  split <;> rfl

theorem oneSecond_keepsOrders {s : State} (h : OrdersSound s) :
    OrdersSound ((((s.setPartTime (s.partTime + 1)).mapConns fun _ x => x.second).ageOrders.surveySecond).finish) := by
  have counted := (setPartTime_keepsOrders h (s.partTime + 1)).of_motions
    (t := (s.setPartTime (s.partTime + 1)).mapConns fun _ x => x.second)
    (motions_mapConns_same _ fun _ => second_motion) (by simp) (by simp) (by simp)
  exact finish_keepsOrders (surveySecond_keepsOrders (ageOrders_keepsOrders counted))

theorem powerOn_keepsOrders (s : State) : OrdersSound s.powerOn := by
  have up : OrdersSound (poweredUp s.pending s.imageAfterLoss) := ordersSound_of_none rfl rfl rfl
  exact setLines_keepsOrders (arbitrate_keepsOrders (startRound_keepsOrders up))

theorem confirmTick_keepsOrders {s : State} (h : OrdersSound s) {k : CtxId} {x : Context} (hx : s.context k = some x)
    (fired : x.state = .fired) : OrdersSound (s.confirmTick k x) := by
  have sound := h.context hx
  have unarmed : x.state ≠ .armed ∧ x.state ≠ .arming := by rw [fired]; decide
  have kept : ∀ {b : Bool} {r}, (if b then x.slot else some .confirm) = some r → r = .confirm ∨ x.slot = some r := by
    intro b r e
    cases b
    · exact .inl (Option.some.inj e).symm
    · exact .inr e
  refine arbitrate_keepsOrders (setContext_keepsOrders h hx rfl rfl rfl ?_)
  exact { sound with
    fire := fun e => (kept e).elim nofun sound.fire
    arm := fun e => (kept e).elim nofun sound.arm
    firing := fun o ho hr q => absurd (sound.firing o ho hr q).1 unarmed.1
    arming := fun o ho hr t d a q => absurd (sound.arming o ho hr t d a q).1 unarmed.2 }

theorem survives_ordersSound : Survives OrdersSound where
  pending _ _ h := h.of_frame rfl rfl rfl rfl
  setPort _ _ _ h := h.of_frame rfl rfl rfl rfl
  setRx _ _ h := h.of_frame rfl rfl rfl rfl
  serve c p params _ fits h := serve_keepsOrders c p params fits h
  finishTransfer _ h := finishTransfer_keepsOrders h
  acceptWindow _ r h := acceptWindow_keepsOrders h r
  goodReply _ _ serial _ h ho hr := goodReply_keepsOrders h ho serial hr
  lapseOutstanding _ _ h ho := lapseOutstanding_keepsOrders h ho
  powerOn s t h e := by
    injection e with e
    exact e ▸ powerOn_keepsOrders s
  supplyLost s t h e := by
    injection e with e
    subst e
    exact ite_keepsOrders (h.of_frame rfl rfl rfl rfl) h
  oneSecond s t h e := whilePowered_keeps h (oneSecond_keepsOrders h) e
  saveEnd s t h e := by
    refine whilePowered_keeps h ?_ e
    split
    · exact h
    · exact finishTransfer_keepsOrders (h.of_frame rfl rfl rfl rfl)
  restart s t h e := whilePowered_keeps h
    (ite_keepsOrders (setLines_keepsOrders (arbitrate_keepsOrders (restartEffect_keepsOrders s))) h) e
  quietCount s t h e := whilePowered_keeps h (ite_keepsOrders (finish_keepsOrders (enterWatch_keepsOrders h)) h) e
  staleness s t h e := by
    have stale := raise_keepsOrders (h.of_frame (t := s.withMetering s.metering.expire) rfl rfl rfl rfl) .meteringLost
    exact whilePowered_keeps h (ite_keepsOrders (setLines_keepsOrders (reviewStopping_keepsOrders stale)) h) e
  routineSpacing s t h e :=
    whilePowered_keeps h (ite_keepsOrders (arbitrate_keepsOrders (withBus_keepsOrders h (by rfl))) h) e
  surveyTimer s t h e := whilePowered_keeps h (arbitrate_keepsOrders (expireSurveyTimer_keepsOrders h)) e
  arrivalHold c s t h e := by
    have arrived := h.of_motions (t := s.modConn c fun x => { x with arrivalHold := 0, presence := .present })
      (motions_modConn_same s c rfl) (by simp) (by simp) (by simp)
    exact whilePowered_keeps h (ite_keepsOrders (finish_keepsOrders arrived) h) e
  settle c s t h e := by
    have settled := h.of_motions (t := s.modConn c fun x => { x with settle := 0 })
      (motions_modConn_same s c rfl) (by simp) (by simp) (by simp)
    exact whilePowered_keeps h (ite_keepsOrders (finish_keepsOrders settled) h) e
  expired c s t h e :=
    whilePowered_keeps h (ite_keepsOrders (finish_keepsOrders (removeQueued_keepsOrders h c .expired)) h) e
  armDeadline k s t h e := by
    refine whilePowered_keeps h ?_ e
    split
    · exact h
    · next x hx =>
      split
      · next due =>
        simp only [State.waitsForSlot, Bool.and_eq_true, beq_iff_eq] at due
        have unfired : x.state ≠ .fired := by rw [due.1.1]; decide
        exact finish_keepsOrders (raiseRelease_keepsOrders (returnOrder_keepsOrders h hx unfired) _ _)
      · exact h
  confirmTimer k s t h e := by
    refine whilePowered_keeps h ?_ e
    split
    · exact h
    · next x hx =>
      split
      · next due =>
        simp only [Bool.and_eq_true, beq_iff_eq] at due
        exact confirmTick_keepsOrders h hx due.1
      · exact h
  confirmDeadline k s t h e := by
    refine whilePowered_keeps h ?_ e
    split
    · exact h
    · next x hx => exact ite_keepsOrders (finishTransfer_keepsOrders (endTransfer_keepsOrders h hx _ _)) h

/-- Settles O59: a step is made of parts that each keep the queue and the contexts in agreement. -/
theorem everyStepKeepsTheOrders : Obligations.EveryStepKeepsTheOrders :=
  fun _ _ sound step => survives_ordersSound.step sound step

end Sys2Proof.Claims

/-!
PROOFS. The seconds and the part time (R11, R13, R97, R117, R121, R185, R186), and the last parts of an event apart from
the ports.
-/

namespace Sys2Proof.Claims

open Sys2Proof.Machine

theorem whilePowered_on {s : State} (h : s.powered = true) (t : State) : s.whilePowered t = .next t := by
  simp [State.whilePowered, h]

/-! ### The end of one count -/

/-- Settles O54: each row is the end of one count that runs, and nothing otherwise. -/
theorem countsRunOut : Obligations.CountsRunOut := by
  intro s c on
  refine ⟨fun idle => ?_, fun arriving => ?_, fun done => ?_, fun running => ?_, ?_⟩
  · show s.whilePowered _ = _
    rw [whilePowered_on on, if_neg idle]
  · refine ⟨_, whilePowered_on on _, ?_⟩
    rw [if_pos arriving]
    rfl
  · show s.whilePowered _ = _
    rw [whilePowered_on on, if_neg (by omega)]
  · refine ⟨_, whilePowered_on on _, ?_⟩
    rw [if_pos running]
    rfl
  · have row : exec (.expired c) s =
        .next (if (s.queuedOrder c).isSome then (s.removeQueued c .expired).finish else s) :=
      whilePowered_on on _
    rw [row]
    rcases ho : s.queuedOrder c with _ | o
    · rw [show (s.queue.orders.find? fun o => o.conn == c) = none from ho]
      rfl
    · rw [show (s.queue.orders.find? fun o => o.conn == c) = some o from ho]
      rw [removeQueued_eq_removed ho]
      exact ⟨_, rfl, rfl⟩

/-! ### The orders that expire -/

/-- The queued order of a connection is its one order. -/
theorem queuedOrder_of_mem {s : State} (one : OneOrderEach s) {o : Order} (ho : o ∈ s.queue.orders) :
    s.queuedOrder o.conn = some o := by
  obtain ⟨q, hq⟩ : ∃ q, s.queuedOrder o.conn = some q :=
    Option.ne_none_iff_exists'.mp fun none => queuedOrder_none.mp none (mem_queuedConns ho)
  obtain ⟨member, same⟩ := queuedOrder_some hq
  rw [hq, List.inj_on_of_nodup_map one member ho same]

theorem removed_orders (s : State) (o : Order) (e : LogOutcome) :
    (removed s o e).queue.orders = s.queue.orders.filter fun q => q.conn != o.conn := by
  unfold removed
  rw [engineTold_frame]

/-- The orders of a list are removed one after another, each the one of its connection. -/
theorem foldl_removeQueued (e : LogOutcome) (l : List Order) {s : State} (one : OneOrderEach s)
    (queued : ∀ o ∈ l, o ∈ s.queue.orders) (nodup : (l.map (·.conn)).Nodup) :
    l.foldl (fun t o => t.removeQueued o.conn e) s = l.foldl (fun t o => removed t o e) s := by
  induction l generalizing s with
  | nil => rfl
  | cons o l ih =>
    simp only [List.map_cons, List.nodup_cons] at nodup
    rw [List.foldl_cons, List.foldl_cons,
      removeQueued_eq_removed (queuedOrder_of_mem one (queued o List.mem_cons_self))]
    refine ih ?_ (fun q hq => ?_) nodup.2
    · unfold OneOrderEach
      rw [removed_orders]
      exact one.sublist (List.filter_sublist.map _)
    · rw [removed_orders]
      refine List.mem_filter.mpr ⟨queued q (List.mem_cons_of_mem _ hq), ?_⟩
      have other : q.conn ≠ o.conn := fun same => nodup.1 (same ▸ List.mem_map_of_mem hq)
      simpa using other

/-- Removals of orders leave the bus, the settings and every presence. -/
theorem foldl_removed_frame (e : LogOutcome) (l : List Order) (s : State) :
    (l.foldl (fun t o => removed t o e) s).bus = s.bus
      ∧ (l.foldl (fun t o => removed t o e) s).settings = s.settings
      ∧ ∀ c, ((l.foldl (fun t o => removed t o e) s).conn c).presence = (s.conn c).presence := by
  refine ⟨foldl_keeps _ State.bus (fun t o => ?_) l s, foldl_keeps _ State.settings (fun t o => ?_) l s,
    fun c => foldl_keeps _ (fun t : State => (t.conn c).presence) (fun t o => ?_) l s⟩
  · unfold removed
    rw [engineTold_frame]
  · unfold removed
    rw [engineTold_frame]
  · have told : ∀ u src, (engineTold u src).conn c = u.conn c := fun u src => by rw [engineTold_frame]; rfl
    unfold removed
    rw [told]
    have written := State.setConn_conn t o.conn c { t.conn o.conn with motion := .idle }
    refine (congrArg Connection.presence written).trans ?_
    split
    · next same => rw [same]
    · rfl

/-! ### One second -/

theorem second_eq_secondLater (x : Connection) : x.second = secondLater x := by
  unfold Connection.second secondLater
  cases hp : x.presence <;> simp

theorem vector_ofFn_get {α : Type} {n : Nat} (v : Vector α n) : Vector.ofFn (fun i => v.get i) = v := by
  ext i hi
  simp [Vector.get]

/-- Part time takes a new value, and a new day clears every transfers-today (R185, R13). -/
theorem setPartTime_eq (s : State) (t : Word) : s.setPartTime t = { s with
    partTime := t
    conns := Vector.ofFn fun c => { s.conn c with
      transfersToday := if t.toNat / 86400 != s.partTime.toNat / 86400 then 0 else (s.conn c).transfersToday } } := by
  unfold State.setPartTime dayNumber
  split
  · next same =>
    simp only [same, bne_self_eq_false, Bool.false_eq_true, if_false]
    rw [show (Vector.ofFn fun c => s.conn c) = s.conns from vector_ofFn_get s.conns]
    rfl
  · next changed =>
    simp only [bne_iff_ne, ne_eq, changed, not_false_eq_true, if_true]
    rfl

/-- A survey round lists by use and presence. -/
theorem surveyList_eq {s t : State} (hs : t.settings = s.settings)
    (hp : ∀ c, (t.conn c).presence = (s.conn c).presence) : allConns.filter t.surveyed = surveyList s := by
  unfold surveyList allConns
  refine congrArg (List.filter · _) (funext fun c => ?_)
  simp only [State.surveyed, State.used, State.config_congr hs, hp c]
  cases (s.conn c).presence <;> rfl

/-- The survey timer counts one second (R117). -/
theorem surveySecond_eq {s t : State} (hs : t.settings = s.settings)
    (hp : ∀ c, (t.conn c).presence = (s.conn c).presence) : t.surveySecond = { t with bus :=
      if 1 < t.bus.surveyTimer then { t.bus with surveyTimer := t.bus.surveyTimer - 1 }
      else { (if t.bus.surveyRunning then t.bus else roundStarted t.bus (surveyList s)) with
        surveyTimer := s.setting .surveyInterval } } := by
  unfold State.surveySecond
  split
  · next ends =>
    rw [if_neg (by omega), ← surveyList_eq hs hp, ← State.setting_congr hs]
    unfold State.expireSurveyTimer
    split <;> rfl
  · next runs =>
    rw [if_pos (by omega)]
    rfl

/-- The connection records after one second, the day boundary among its effects. -/
theorem mapConns_second_eq (s : State) (t : Word) :
    ((s.setPartTime t).mapConns fun _ x => x.second) = { s with
      partTime := t
      conns := Vector.ofFn fun c => { secondLater (s.conn c) with
        transfersToday := if t.toNat / 86400 != s.partTime.toNat / 86400 then 0 else (s.conn c).transfersToday } } := by
  rw [setPartTime_eq]
  simp only [State.mapConns, State.withConns, vector_get_ofFn, second_eq_secondLater]
  rfl

/-- Settles O53: the counts, then the orders that expire, then the survey timer. -/
theorem oneSecondPasses : Obligations.OneSecondPasses := by
  intro s on one time newDay u v bus
  have aged : ((s.setPartTime time).mapConns fun _ x => x.second).ageOrders = v := by
    rw [mapConns_second_eq]
    have conns : u.queue.orders.map (·.conn) = s.queue.orders.map (·.conn) := by simp [u, Function.comp_def]
    have oneAged : (u.queue.orders.map (·.conn)).Nodup := conns ▸ one
    exact foldl_removeQueued .expired _ (s := u) oneAged (fun o ho => (List.mem_filter.mp ho).1)
      (oneAged.sublist (List.filter_sublist.map _))
  obtain ⟨keptBus, keptSettings, keptPresence⟩ := foldl_removed_frame .expired
    (u.queue.orders.filter fun o => o.life == 0) u
  refine ⟨_, whilePowered_on on _, congrArg State.finish ?_⟩
  rw [aged, surveySecond_eq keptSettings keptPresence]
  show { v with bus := _ } = { v with bus := _ }
  rw [show v.bus = s.bus from keptBus]
  rfl

/-! ### The last parts of an event and the ports

The last parts read no port: a response that is begun before them stands after them. -/

section
variable (s : State) (x : PerPort PortState)

theorem takeFireSlot_withPorts : (s.withPorts x).takeFireSlot = s.takeFireSlot.withPorts x := by
  have same : ∀ test, (s.withPorts x).earliest test = s.earliest test := fun _ => rfl
  have moves : (s.withPorts x).movesAllowed = s.movesAllowed := rfl
  unfold State.takeFireSlot
  rw [same, moves, State.withPorts_transfers]
  split
  · split <;> rfl
  · rfl

theorem dispatchOnce_withPorts : (s.withPorts x).dispatchOnce = s.dispatchOnce.withPorts x := by
  have best : (s.withPorts x).bestOrder = s.bestOrder := rfl
  have free : (s.withPorts x).freeContext = s.freeContext := rfl
  have moves : (s.withPorts x).movesAllowed = s.movesAllowed := rfl
  unfold State.dispatchOnce
  rw [best, free, moves]
  split
  · split <;> rfl
  · rfl

theorem grantSurvey_withPorts : (s.withPorts x).grantSurvey = s.grantSurvey.withPorts x := by
  have surveyed : (fun c => !((s.withPorts x).surveyed c && !((s.withPorts x).conn c).motion.inFlight))
      = fun c => !(s.surveyed c && !(s.conn c).motion.inFlight) := rfl
  unfold State.grantSurvey
  rw [surveyed, State.withPorts_bus]
  split
  · split <;> rfl
  · rfl

theorem grantRoutine_withPorts : (s.withPorts x).grantRoutine = s.grantRoutine.withPorts x := by
  have choice : (s.withPorts x).rotationChoice = s.rotationChoice := rfl
  unfold State.grantRoutine
  dsimp only
  rw [choice, State.withPorts_bus]
  split
  · split
    · rfl
    · exact grantSurvey_withPorts (s.withBus _) x
  · exact grantSurvey_withPorts s x

theorem grantContext_withPorts (k : CtxId) (y : Context) (r : CtxRequest) :
    (s.withPorts x).grantContext k y r = (s.grantContext k y r).withPorts x := by
  cases r <;> rfl

theorem arbitrate_withPorts : (s.withPorts x).arbitrate = s.arbitrate.withPorts x := by
  have waiting : ∀ r, (s.withPorts x).waitingRequest r = s.waitingRequest r := fun _ => rfl
  have disarm : (s.withPorts x).nextDisarm = s.nextDisarm := rfl
  unfold State.arbitrate
  rw [waiting, waiting, waiting, disarm, State.withPorts_bus]
  split
  · rfl
  · split
    · exact grantContext_withPorts s x _ _ _
    · split
      · rfl
      · split
        · exact grantContext_withPorts s x _ _ _
        · split
          · exact grantContext_withPorts s x _ _ _
          · exact grantRoutine_withPorts s x

/-- The last parts of an event read no port and change none. -/
theorem finish_withPorts : (s.withPorts x).finish = s.finish.withPorts x := by
  unfold State.finish State.dispatchChoice
  rw [takeFireSlot_withPorts, dispatchOnce_withPorts, dispatchOnce_withPorts, arbitrate_withPorts]
  rfl

end

/-! ### A request that is answered -/

/-- The response begun before the last parts of the event stands after them. -/
theorem answered_finish (s : State) (p : Port) (code status : Byte) (data : List Byte) :
    (answered s p code status data).finish = answered s.finish p code status data := by
  have ports : s.finish.ports = s.ports := by simp
  refine (finish_withPorts s _).trans ?_
  simp only [answered, ports]
  rfl

theorem wordBytes_readWord (a b c d : Byte) : wordBytes (readWord a b c d) = [a, b, c, d] := by
  have ha := a.isLt
  have hb := b.isLt
  have hc := c.isLt
  have hd := d.isLt
  rw [← fourBytes_eq, ← fromFour_eq]
  simp only [fourBytes, fromFour, byteOf, List.cons.injEq, and_true, BitVec.toNat_ofNat]
  refine ⟨?_, ?_, ?_, ?_⟩ <;> apply BitVec.eq_of_toNat_eq <;> simp only [BitVec.toNat_ofNat] <;> omega

theorem serveSetTime_sameDay {s : State} {t : Word} (same : t.toNat / 86400 = s.partTime.toNat / 86400) :
    serveSetTime t s = ⟨{ s with partTime := t }, .ok, wordBytes t⟩ := by
  simp only [serveSetTime, State.setPartTime, dayNumber, same, if_true]
  rfl

theorem serveSetTime_newDay {s : State} {t : Word} (changed : t.toNat / 86400 ≠ s.partTime.toNat / 86400) :
    serveSetTime t s = ⟨State.finish { s with
      partTime := t
      conns := Vector.ofFn fun c => { s.conn c with transfersToday := 0 } }, .ok, wordBytes t⟩ := by
  have set : s.setPartTime t = { s with
      partTime := t
      conns := Vector.ofFn fun c => { s.conn c with transfersToday := 0 } } := by
    rw [setPartTime_eq]
    simp only [bne_iff_ne, ne_eq, changed, not_false_eq_true, if_true]
  simp only [serveSetTime, dayNumber, changed, if_false, set]
  simp

/-- Settles O32: SET_TIME is the day boundary's event exactly when the day number changes. -/
theorem timeIsReplaced : Obligations.TimeIsReplaced := by
  intro s a b c d ready time
  have row : exec (.setTime .op [a, b, c, d]) s =
      (let r := serveSetTime time (taken s .op)
       .next (answered r.state .op 0xC0 r.status.byte r.data)) := by
    rw [exec_setTime_ready .op [a, b, c, d] s ready.1 ready.2 rfl rfl, serve_setTime, ← fromFour_eq]
    rfl
  have bytes : wordBytes time = [a, b, c, d] := by rw [show time = _ from fromFour_eq a b c d, wordBytes_readWord]
  split
  · next same =>
    rw [row, serveSetTime_sameDay (s := taken s .op) same, bytes]
    rfl
  · next changed =>
    refine ⟨_, row, ?_⟩
    rw [serveSetTime_newDay (s := taken s .op) changed, bytes]
    exact (answered_finish _ .op 0xC0 0x00 [a, b, c, d]).symm

end Sys2Proof.Claims

/-!
PROOFS. Power-on and restart (R22, R23, R41, R87, R88, R129, R187, R190 to R192): what both start, and what each keeps.
-/

namespace Sys2Proof.Claims

open Sys2Proof.Machine

/-! ### The first survey round of a reset -/

/-- With no context in flight, no disarm and no routine poll waiting, a free bus goes to the survey class (R115). -/
theorem arbitrate_survey {s : State} (free : s.bus.outstanding = none) (ctx : s.transfers = ⟨none, none, none, 1⟩)
    (disarms : s.bus.disarmSlots = Vector.replicate 64 none) (routine : s.bus.routineSlot = false) :
    s.arbitrate = s.grantSurvey := by
  have waiting : ∀ r, s.waitingRequest r = none := by
    intro r
    simp [State.waitingRequest, State.earliest, State.inFlight, State.context, ctx, Transfers.get]
  have empty : ∀ c : ConnId, s.bus.disarmSlots.get c = none := fun c => by
    rw [disarms]
    exact vector_get_replicate none c
  have disarm : s.nextDisarm = none := by simp [State.nextDisarm, State.releaseMark, empty]
  simp [State.arbitrate, free, waiting, disarm, State.grantRoutine, routine]

/-- The survey class polls the first connection listed, when that one still qualifies (R117). -/
theorem grantSurvey_cons {s : State} {c : ConnId} {rest : List ConnId} (slot : s.bus.surveySlot = true)
    (left : s.bus.surveyList = c :: rest) (listed : s.surveyed c = true) (still : (s.conn c).motion.inFlight = false) :
    s.grantSurvey =
      (s.withBus { s.bus with surveyList := rest, surveySlot := !rest.isEmpty }).send c .poll .survey := by
  simp [State.grantSurvey, slot, left, listed, still]

/-- A controller that has just been reset lists the connections in use, and its first choice is the poll of the first
one listed (R129, R117, R115). -/
theorem startRound_arbitrate {s : State} (bus : s.bus = busAfterReset s.settings)
    (ctx : s.transfers = ⟨none, none, none, 1⟩) (absent : ∀ c, (s.conn c).presence = .absent)
    (flight : ∀ c, (s.conn c).motion.inFlight = false) :
    ∃ b, s.startRound.arbitrate = { s with bus := b } ∧ busStarted s.settings b := by
  have listed : allConns.filter s.surveyed = usedConns s.settings := by
    refine congrArg (List.filter · _) (funext fun c => ?_)
    simp [State.surveyed, State.used, State.config, absent c, Presence.lost]
  have round : s.startRound = s.withBus (roundStarted (busAfterReset s.settings) (usedConns s.settings)) := by
    rw [← bus, ← listed]
    rfl
  have survey := arbitrate_survey (s := s.withBus (roundStarted (busAfterReset s.settings) (usedConns s.settings)))
    rfl ctx rfl rfl
  rw [round, survey]
  unfold busStarted
  rcases h : usedConns s.settings with _ | ⟨c, rest⟩
  · exact ⟨_, rfl, rfl, rfl, rfl, rfl, rfl, rfl, rfl, rfl, rfl, rfl⟩
  · have member : c ∈ allConns.filter s.surveyed := listed ▸ h ▸ List.mem_cons_self
    have granted := grantSurvey_cons (s := s.withBus (roundStarted (busAfterReset s.settings) (c :: rest))) rfl rfl
      (List.mem_filter.mp member).2 (flight c)
    rw [granted]
    exact ⟨_, rfl, rfl, rfl, rfl, rfl, rfl, rfl, rfl, rfl, rfl, rfl⟩

/-! ### The blocks after a reset -/

theorem meteringAfterReset_started (st : Settings) : meteringStarted st (meteringAfterReset st) :=
  ⟨rfl, rfl, rfl, rfl, rfl, rfl, rfl, fun q => by cases q <;> rfl⟩

theorem engineAfterReset_started (st : Settings) : engineStarted st (engineAfterReset st) :=
  ⟨rfl, rfl, rfl, rfl, rfl, rfl, rfl, rfl, fun _ => vector_get_replicate _ _⟩

theorem connAfterPowerOn_started (st : Settings) (c : ConnId) : connStarted st c (connAfterPowerOn st c) :=
  ⟨rfl, rfl, rfl, rfl, rfl, rfl, rfl, rfl, rfl, rfl⟩

theorem poweredUp_conn (pending : List Instr) (image : Option Settings) (c : ConnId) :
    (poweredUp pending image).conn c = connAfterPowerOn (image.getD Settings.defaults) c := vector_get_ofFn _ c

/-- Power-on is every block at its power-on values, the first survey poll on the bus, and the lines set. -/
theorem powerOn_eq (s : State) : ∃ b, s.powerOn = State.setLines { poweredUp s.pending (imageFound s) with bus := b }
    ∧ busStarted ((imageFound s).getD Settings.defaults) b := by
  have conn := poweredUp_conn s.pending (imageFound s)
  obtain ⟨b, hb, started⟩ := startRound_arbitrate (s := poweredUp s.pending (imageFound s)) rfl rfl
    (fun c => by rw [conn]; rfl) (fun c => by rw [conn]; rfl)
  exact ⟨b, congrArg State.setLines hb, started⟩

/-- Settles O2: power-on puts every block at its power-on values. -/
theorem powerOnStartsEveryBlock : Obligations.PowerOnStartsEveryBlock := by
  intro s
  obtain ⟨b, powered, bus⟩ := powerOn_eq s
  refine ⟨s.powerOn, rfl, ?_⟩
  have lines : LinesFollow s.powerOn := lines_setLines _
  have conns : ∀ c, s.powerOn.conn c = connAfterPowerOn ((imageFound s).getD Settings.defaults) c := fun c => by
    rw [powered]
    exact poweredUp_conn s.pending (imageFound s) c
  have alarms : ∀ p a, (s.powerOn.alarms.get p).has a = true ↔ a = .settingsDefaulted ∧ imageFound s = none := by
    intro p a
    rw [powered, ← Option.isNone_iff_eq_none]
    cases p <;> cases a <;> simp [State.setLines, poweredUp, PerPort.get, AlarmSet.has, AlarmSet.empty]
  rw [powered] at lines conns alarms ⊢
  refine ⟨rfl, rfl, rfl, rfl, rfl, rfl, rfl, fun c => ?_, meteringAfterReset_started _, engineAfterReset_started _, rfl,
    bus, rfl, rfl, alarms, lines, rfl, fun p => by cases p <;> rfl⟩
  rw [conns]
  exact ⟨connAfterPowerOn_started _ c, rfl, rfl, rfl, rfl⟩

/-! ### Restart -/

/-- The removal of a queued order at a restart: its record is written and its connection IDLE (R108). -/
theorem cancelAll_conn (s : State) (c : ConnId) : s.cancelAll.conn c =
    if s.queue.orders.all (fun o => o.conn != c) then s.conn c else { s.conn c with motion := .idle } := by
  unfold State.cancelAll
  generalize s.queue.orders = l
  induction l generalizing s with
  | nil => rfl
  | cons o l ih =>
    rw [List.foldl_cons, ih, State.setMotion_conn]
    have dropped : ∀ d, (s.dropOrder o .cancelled).conn d = s.conn d := State.conn_congr (by simp)
    simp only [dropped, List.all_cons]
    by_cases same : c = o.conn
    · subst same
      simp
    · have other : (o.conn != c) = true := by simpa using fun e => same e.symm
      simp [same, other]

/-- The log after the queued orders are cancelled: their motions tell nothing (R108). -/
theorem cancelAll_log (s : State) : s.cancelAll.log = cancelledLog s := by
  have step : ∀ (l : List Order) (t w : State), t.log = w.log → t.partTime = w.partTime →
      (∀ c, (t.conn c).recordedPhase = (s.conn c).recordedPhase) →
      (l.foldl (fun t o => (t.dropOrder o .cancelled).setMotion o.conn .idle) t).log
        = (l.foldl (fun w o => { w with
            log := logged w o.conn (s.conn o.conn).recordedPhase o.target o.source o.trigger o.gain .cancelled })
          w).log := by
    intro l
    induction l with
    | nil => exact fun _ _ log _ _ => log
    | cons o l ih =>
      intro t w log time phase
      refine ih _ _ ?_ (by simpa using time) fun c => ?_
      · simp only [State.setMotion_frame]
        show logged t _ _ _ _ _ _ _ = logged w _ _ _ _ _ _ _
        simp only [logged, log, time, phase]
      · rw [State.setMotion_conn]
        split
        · next same => exact same ▸ phase o.conn
        · exact phase c
  unfold State.cancelAll cancelledLog
  exact step s.queue.orders s s rfl rfl fun _ => rfl

/-- A connection record after a restart, from the record before it (R23, R129, R153). -/
theorem connAfterRestart_started (st : Settings) (c : ConnId) (x : Connection) :
    connStarted st c (connAfterRestart st c x) ∧ (connAfterRestart st c x).transfersToday = x.transfersToday
      ∧ (if (st.conns.get c).kind = .unused then
          (connAfterRestart st c x).pins = ⟨false, false, false, false⟩ ∧ (connAfterRestart st c x).motion = .idle
            ∧ (connAfterRestart st c x).faultCause = none
        else (connAfterRestart st c x).pins = x.pins
          ∧ if x.motion = .faulted then
              (connAfterRestart st c x).motion = .faulted ∧ (connAfterRestart st c x).faultCause = x.faultCause
            else (connAfterRestart st c x).motion = .idle ∧ (connAfterRestart st c x).faultCause = none) := by
  unfold connAfterRestart
  dsimp only
  by_cases unused : (st.conns.get c).kind = .unused
  · rw [if_pos unused, if_pos unused]
    exact ⟨connAfterPowerOn_started st c, rfl, rfl, rfl, rfl⟩
  · by_cases faulted : x.motion = .faulted
    · rw [if_neg unused, if_neg unused, if_pos faulted, if_pos faulted]
      exact ⟨connAfterPowerOn_started st c, rfl, rfl, rfl, rfl⟩
    · rw [if_neg unused, if_neg unused, if_neg faulted, if_neg faulted]
      exact ⟨connAfterPowerOn_started st c, rfl, rfl, rfl, rfl⟩

theorem portAfterRestart_restarted (st : Settings) (p : Port) (x : PortState) :
    portRestarted st p x (portAfterRestart st p x) := by
  unfold portRestarted portAfterRestart
  dsimp only
  rcases h : x.response with _ | r <;> simp

/-- A loaded image that is bad raises SETTINGS_DEFAULTED (R187). -/
theorem loadImage_alarms (s : State) (p : Port) (a : Alarm) : (s.loadImage.alarms.get p).has a = true ↔
    (s.alarms.get p).has a = true ∨ a = .settingsDefaulted ∧ s.image = none := by
  unfold State.loadImage State.raiseIf
  rcases h : s.image with _ | st
  · cases a <;> simp [State.raise, AlarmSet.insert, AlarmSet.has]
  · simp

/-- The blocks at their restart values, before the first survey round (R192). -/
def restartedBlocks (s : State) : State := s.cancelAll.loadImage.restartBlocks

theorem restartedBlocks_settings (s : State) : (restartedBlocks s).settings = s.image.getD Settings.defaults := by
  simp [restartedBlocks, State.loadImage]

theorem restartedBlocks_conn (s : State) (c : ConnId) : (restartedBlocks s).conn c =
    connAfterRestart (s.image.getD Settings.defaults) c (s.cancelAll.conn c) := by
  have loaded : s.cancelAll.loadImage.settings = s.image.getD Settings.defaults := by simp [State.loadImage]
  rw [← loaded, ← State.conn_congr (t := s.cancelAll.loadImage) (s := s.cancelAll) (by simp)]
  exact vector_get_ofFn _ c

theorem restartedBlocks_still (s : State) (c : ConnId) : ((restartedBlocks s).conn c).presence = .absent
    ∧ ((restartedBlocks s).conn c).motion.inFlight = false := by
  rw [restartedBlocks_conn]
  unfold connAfterRestart
  dsimp only
  repeat' split
  all_goals exact ⟨rfl, rfl⟩

/-- A restart's effect and the choice that follows: the blocks, with the first survey poll on the bus. -/
theorem restartEffect_arbitrate (s : State) : ∃ b, s.restartEffect.arbitrate = { restartedBlocks s with bus := b }
    ∧ busStarted (s.image.getD Settings.defaults) b := by
  obtain ⟨b, hb, started⟩ := startRound_arbitrate (s := restartedBlocks s) rfl rfl
    (fun c => (restartedBlocks_still s c).1) (fun c => (restartedBlocks_still s c).2)
  exact ⟨b, hb, restartedBlocks_settings s ▸ started⟩

/-- What a restart leaves of a connection record (R192, R108, R23). -/
theorem restartedBlocks_connStarted (s : State) (c : ConnId) :
    connStarted (s.image.getD Settings.defaults) c ((restartedBlocks s).conn c)
      ∧ ((restartedBlocks s).conn c).transfersToday = (s.conn c).transfersToday
      ∧ (if ((s.image.getD Settings.defaults).conns.get c).kind = .unused then
          ((restartedBlocks s).conn c).pins = ⟨false, false, false, false⟩
            ∧ ((restartedBlocks s).conn c).motion = .idle ∧ ((restartedBlocks s).conn c).faultCause = none
        else ((restartedBlocks s).conn c).pins = (s.conn c).pins
          ∧ if (s.conn c).motion = .faulted ∧ s.queue.orders.all (fun o => o.conn != c) = true then
              ((restartedBlocks s).conn c).motion = .faulted
                ∧ ((restartedBlocks s).conn c).faultCause = (s.conn c).faultCause
            else ((restartedBlocks s).conn c).motion = .idle ∧ ((restartedBlocks s).conn c).faultCause = none) := by
  have started := connAfterRestart_started (s.image.getD Settings.defaults) c (s.cancelAll.conn c)
  rw [← restartedBlocks_conn, cancelAll_conn] at started
  split at started
  · next unqueued => simpa only [unqueued, and_true] using started
  · next queued => simpa only [queued, and_false, Bool.false_eq_true, reduceCtorEq, if_false] using started

/-- What a restart that takes effect leaves (R192). -/
theorem restartEffect_restarted (s : State) : Restarted s s.restartEffect.arbitrate.setLines
    ∧ ∀ p, portRestarted s.restartEffect.arbitrate.setLines.settings p (s.ports.get p)
      (s.restartEffect.arbitrate.setLines.ports.get p) := by
  obtain ⟨b, blocks, bus⟩ := restartEffect_arbitrate s
  have lines : LinesFollow s.restartEffect.arbitrate.setLines := lines_setLines _
  have settings : s.restartEffect.arbitrate.setLines.settings = s.image.getD Settings.defaults := by
    rw [blocks]
    exact restartedBlocks_settings s
  have conns : ∀ c, s.restartEffect.arbitrate.setLines.conn c = (restartedBlocks s).conn c := by
    rw [blocks]
    exact fun _ => rfl
  have alarms : s.restartEffect.arbitrate.setLines.alarms = s.cancelAll.loadImage.alarms := by
    rw [blocks]
    rfl
  have log : s.restartEffect.arbitrate.setLines.log = cancelledLog s := by
    rw [blocks, ← cancelAll_log]
    show (restartedBlocks s).log = _
    simp [restartedBlocks]
  have metering : s.restartEffect.arbitrate.setLines.metering =
      meteringAfterReset (s.image.getD Settings.defaults) := by
    rw [blocks, ← restartedBlocks_settings]
    rfl
  have engine : s.restartEffect.arbitrate.setLines.engine = engineAfterReset (s.image.getD Settings.defaults) := by
    rw [blocks, ← restartedBlocks_settings]
    rfl
  have ports : ∀ p, s.restartEffect.arbitrate.setLines.ports.get p =
      portAfterRestart (s.image.getD Settings.defaults) p (s.ports.get p) := by
    intro p
    rw [blocks, ← restartedBlocks_settings]
    have before : s.cancelAll.loadImage.ports = s.ports := by simp
    rw [← before]
    cases p <;> rfl
  refine ⟨⟨by simp, by simp, by simp, by simp, settings, ?_, by simp, by simp, ?_, ?_, ?_, ?_, ?_, fun c => ?_,
    fun p a => ?_, lines, log⟩, fun p => ?_⟩
  · rw [blocks]; rfl
  · rw [blocks]; rfl
  · rw [blocks]; rfl
  · rw [metering, settings]; exact meteringAfterReset_started _
  · rw [engine, settings]; exact engineAfterReset_started _
  · rw [settings, blocks]; exact bus
  · rw [State.config, settings, conns]; exact restartedBlocks_connStarted s c
  · rw [alarms, loadImage_alarms]
    simp
  · rw [settings, ports]; exact portAfterRestart_restarted _ p _

/-- Settles O35: a restart that nothing holds takes effect, at its own row and at the end of an event. -/
theorem restartReloads : Obligations.RestartReloads := by
  have unheld : ∀ s : State, ¬ RestartHeld s ↔ s.restartHeld = false := fun s => by
    rw [← restartHeld_iff, Bool.not_eq_true]
  refine ⟨fun s on => ⟨fun deferred free => ?_, fun idle => ?_⟩,
    fun s t tail => ⟨fun deferred free => ?_, fun idle => ?_⟩⟩
  · have due : (s.restartDeferred && !s.restartHeld) = true := by rw [deferred, (unheld s).mp free]; rfl
    refine ⟨_, whilePowered_on on _, ?_⟩
    rw [if_pos due]
    exact restartEffect_restarted s
  · have notDue : ¬ (s.restartDeferred && !s.restartHeld) = true := by
      rcases idle with none | held
      · simp [none]
      · simp [(restartHeld_iff s).mpr held]
    refine (whilePowered_on on _).trans ?_
    rw [if_neg notDue]
  · rw [show t = _ from tail, finishTransfer_restarts s deferred free]
    exact restartEffect_restarted s
  · exact tail.trans (finishTransfer_eq_finish s idle)

/-! ### The state after reset -/

theorem defaults_conn (c : ConnId) : Settings.defaults.conns.get c = ⟨.unused, ⟨true, true, true⟩, 0⟩ :=
  vector_get_replicate _ c

/-- A part with the default settings polls no connection. -/
theorem usedConns_defaults : usedConns Settings.defaults = [] := by
  refine List.filter_eq_nil_iff.mpr fun c _ => ?_
  rw [defaults_conn]
  decide

theorem busStarted_defaults {b : Bus} (h : busStarted Settings.defaults b) : b = State.reset.bus := by
  unfold busStarted at h
  rw [usedConns_defaults] at h
  obtain ⟨disarms, position, slot, timer, survey, running, surveySlot, list, out, tag⟩ := h
  cases b
  simp_all
  rfl

/-- Settles O3: State.reset is the power-on of a part whose image is bad. -/
theorem resetIsPowerOnWithABadImage : Obligations.ResetIsPowerOnWithABadImage := by
  refine ⟨fun s bad => ?_, fun id => by cases id <;> rfl, defaults_conn, fun i => vector_get_replicate _ i,
    fun p a => by cases p <;> cases a <;> rfl⟩
  obtain ⟨b, powered, bus⟩ := powerOn_eq s
  rw [bad] at powered bus
  have conns : Vector.ofFn (connAfterPowerOn Settings.defaults) = Vector.replicate 64 Connection.initial := by
    refine Vector.ext fun i hi => ?_
    rw [Vector.getElem_ofFn, Vector.getElem_replicate, connAfterPowerOn, if_pos (by rw [defaults_conn])]
    rfl
  have blocks : { poweredUp s.pending none with bus := State.reset.bus } =
      { State.reset with pending := s.pending, attention := ⟨false, false, false⟩ } := by
    refine State.eq_of_fields rfl rfl rfl rfl rfl rfl rfl conns ?_ ?_ rfl rfl rfl rfl rfl rfl rfl ?_
    · rfl
    · rfl
    · rfl
  refine congrArg Host.Outcome.next (powered.trans ?_)
  rw [busStarted_defaults bus, blocks]
  rfl

end Sys2Proof.Claims

/-!
PROOFS. READ_CONNECTION and READ_TABLE (R173, R176, R178, R181): the bytes of a record and of a poll report, and the
four records of a table.
-/

namespace Sys2Proof.Claims

open Sys2Proof.Machine

/-! ### Received connection numbers (R176) -/

theorem readConn_of_val {n : Byte} {c : ConnId} (number : n.toNat = c.val) : readConn n = some c := by
  have inside : n.toNat < 64 := number ▸ c.isLt
  rw [readConn, dif_pos inside]
  exact congrArg some (Fin.ext number)

theorem readConn_eq_none {n : Byte} (outside : 64 ≤ n.toNat) : readConn n = none := dif_neg (by omega)

/-! ### Records and reports on the wire -/

/-- The record of a connection as the meanings send it has the layout of R181. -/
theorem recordBytes_eq (s : State) (c : ConnId) : s.recordBytes c = recordOf (s.config c) c (s.conn c) := by
  have presence : ∀ v : Presence, v.byte =
      match v with | .absent => 0 | .arriving => 1 | .present => 2 | .lapsing => 3 | .mismatch => 4 := fun v => by
    cases v <;> rfl
  have motion : ∀ v : Motion, v.byte =
      match v with | .idle => 0 | .queued => 1 | .arming => 2 | .armed => 3 | .fired => 4 | .faulted => 5 := fun v => by
    cases v <;> rfl
  simp only [State.recordBytes, recordOf, kindCode_eq, phasesCode_eq, fourBytes_eq, twoOf_eq, twoOfInt_eq, pinsCode_eq,
    State.shownPhase, phaseCode_eq, absentByte, presence, motion]
  rcases (s.conn c).faultCause with _ | cause
  · rfl
  · cases cause <;> rfl

/-- A poll report as the meanings send it has the layout of R178. -/
theorem reportBytes_eq (r : PollReport) : reportBytes r = pollReportOf r := by
  have flags : ∀ engaged fault hot : Bool,
      flagByte engaged + (if fault then 2 else 0) + (if hot then 4 else 0) =
        byteOf ((if engaged then 1 else 0) + (if fault then 2 else 0) + (if hot then 4 else 0)) := by decide
  simp only [reportBytes, pollReportOf, phaseCode_eq, twoBytes_eq, flags]
  cases r.unitState <;> rfl

theorem recordOf_length (config : ConnConfig) (c : ConnId) (x : Connection) : (recordOf config c x).length = 23 := by
  simp [recordOf, twoOf_eq, wordBytes, natHalf, intHalf, halfBytes]

/-- The last poll report, or eight zero bytes in its place (R176). -/
theorem optionalRecord_report (r : Option PollReport) : optionalRecord 7 (r.map reportBytes) =
    match r with | none => List.replicate 8 0 | some r => 1 :: pollReportOf r := by
  rcases r with _ | r
  · rfl
  · exact congrArg _ (reportBytes_eq r)

/-- The four connections from a start that exist (R173). -/
theorem tableConns_eq : ∀ c : ConnId, (allConns.drop c.val).take 4 =
    (List.finRange 64).filter fun d => decide (c ≤ d) && decide (d.val < c.val + 4) := by
  decide +kernel

theorem tableConns_length (c : ConnId) : ((allConns.drop c.val).take 4).length = min 4 (64 - c.val) := by
  simp [allConns]

/-! ### The two requests -/

theorem exec_readConnection {s : State} {p : Port} (ready : Ready s p) (n : Byte) : exec (.readConnection p [n]) s =
    (let r := serveReadConnection n (taken s p)
     .next (answered r.state p 0x84 r.status.byte r.data)) := by
  rw [exec_readConnection_ready p [n] s ready.1 ready.2 (by cases p <;> rfl) rfl, serve_readConnection]
  rfl

theorem exec_readTable {s : State} {p : Port} (ready : Ready s p) (n : Byte) : exec (.readTable p [n]) s =
    (let r := serveReadTable n (taken s p)
     .next (answered r.state p 0x85 r.status.byte r.data)) := by
  rw [exec_readTable_ready p [n] s ready.1 ready.2 (by cases p <;> rfl) rfl, serve_readTable]
  rfl

/-- Settles O12: both requests show the records of R181, and refuse a number above 63. -/
theorem connectionReadsShowTheRecords : Obligations.ConnectionReadsShowTheRecords := by
  intro s p n ready
  refine ⟨fun c number => ⟨?_, ?_⟩, fun outside => ⟨?_, ?_⟩, fun c => recordOf_length _ c _⟩
  · rw [exec_readConnection ready, serveReadConnection, readConn_of_val number]
    dsimp only
    rw [recordBytes_eq, optionalRecord_report]
    rfl
  · rw [exec_readTable ready, serveReadTable, readConn_of_val number]
    dsimp only
    rw [tableConns_length, tableConns_eq, funext (recordBytes_eq (taken s p))]
    rfl
  · rw [exec_readConnection ready, serveReadConnection, readConn_eq_none outside]
    rfl
  · rw [exec_readTable ready, serveReadTable, readConn_eq_none outside]
    rfl

end Sys2Proof.Claims

/-!
PROOFS. WRITE_CONNECTION (R19 to R21): the configurations that its bytes name, the fields an accepted write changes, and
the two reasons for BUSY.
-/

namespace Sys2Proof.Claims

open Sys2Proof.Machine

/-! ### The configurations that bytes name (R19) -/

theorem kind_ofByte_kindCode (k : Kind) : Kind.ofByte (kindCode k) = some k := by cases k <;> rfl

theorem readPhaseSet_phasesCode (v : PhaseSet) : readPhaseSet (phasesCode v) = some v := by
  obtain ⟨a, b, c⟩ := v
  revert a b c
  decide

theorem phaseCount_pos {v : PhaseSet} (nonempty : v ≠ ⟨false, false, false⟩) : phaseCount v ≠ 0 := by
  obtain ⟨a, b, c⟩ := v
  revert a b c
  decide

/-- The codes of a kind and of a set that the kind allows name a configuration. -/
theorem readConfig_codes {k : Kind} {v : PhaseSet} (serial : Word) (nonempty : v ≠ ⟨false, false, false⟩)
    (two : k = .movable → 2 ≤ phaseCount v) : readConfig (kindCode k) (phasesCode v) serial = some ⟨k, v, serial⟩ := by
  have admitted : ¬ (phaseCount v = 0 ∨ k = .movable ∧ phaseCount v < 2) := by
    rintro (empty | ⟨movable, one⟩)
    · exact phaseCount_pos nonempty empty
    · exact absurd (two movable) (by omega)
  simp only [readConfig, kind_ofByte_kindCode, readPhaseSet_phasesCode, if_neg admitted]

theorem kind_ofByte_above {kind : Byte} (above : 3 < kind.toNat) : Kind.ofByte kind = none := by
  have other : ∀ b : Byte, b.toNat ≤ 3 → kind ≠ b := fun b small same => absurd (same ▸ small) (by omega)
  rw [Kind.ofByte, if_neg (other 0 (by decide)), if_neg (other 1 (by decide)), if_neg (other 2 (by decide)),
    if_neg (other 3 (by decide))]

/-- A code above the kinds, no phase, a bit that names no phase, or one phase for a MOVABLE connection: no
configuration. -/
theorem readConfig_refused {kind allowed : Byte} (serial : Word)
    (wrong : 3 < kind.toNat ∨ allowed.toNat = 0 ∨ 7 < allowed.toNat
      ∨ kind.toNat = 1 ∧ (allowed.toNat = 1 ∨ allowed.toNat = 2 ∨ allowed.toNat = 4)) :
    readConfig kind allowed serial = none := by
  have named : ∀ {b c : Byte}, b.toNat = c.toNat → b = c := BitVec.eq_of_toNat_eq
  unfold readConfig
  rcases wrong with above | empty | above | ⟨movable, one⟩
  · rw [kind_ofByte_above above]
  · rw [named (c := 0) empty]
    cases Kind.ofByte kind <;> rfl
  · rw [readPhaseSet, if_neg (by omega)]
    cases Kind.ofByte kind <;> rfl
  · rw [named (c := 1) movable]
    rcases one with one | one | one
    · rw [named (c := 1) one]
      rfl
    · rw [named (c := 2) one]
      rfl
    · rw [named (c := 4) one]
      rfl

/-! ### An accepted write (R20, R21) -/

/-- The record after an accepted write: put back to the start of its identification, unless kind and serial stand and
it is not in MISMATCH. -/
theorem rewritten_eq (x : Connection) (old new : ConnConfig) (settle : Nat) : rewritten x old new settle =
    if old.kind ≠ new.kind ∨ old.expectedSerial ≠ new.expectedSerial ∨ x.presence = .mismatch then
      x.reidentify.rekind old.kind new.kind settle
    else x := by
  unfold rewritten
  by_cases same : old.kind = new.kind ∧ old.expectedSerial = new.expectedSerial ∧ x.presence ≠ .mismatch
  · rw [if_pos same, if_neg (by tauto)]
  · have differs : old.kind ≠ new.kind ∨ old.expectedSerial ≠ new.expectedSerial ∨ x.presence = .mismatch := by tauto
    rw [if_neg same, if_pos differs]
    rfl

theorem writeConfig_eq (s : State) (c : ConnId) (g : ConnConfig) : s.writeConfig c g = { s with
    settings := { s.settings with conns := s.settings.conns.set c g }
    conns := s.conns.set c (rewritten (s.conn c) (s.config c) g (s.setting .settleInterval)) } := by
  have unchanged : s.conns = s.conns.set c (s.conn c) := (Vector.set_getElem_self c.isLt).symm
  rw [rewritten_eq]
  unfold State.writeConfig
  dsimp only
  split
  · rfl
  · rw [← unchanged]
    rfl

theorem busyMotion_iff (m : Motion) :
    (m = .queued ∨ m.inFlight = true) ↔ m = .queued ∨ m = .arming ∨ m = .armed ∨ m = .fired := by
  cases m <;> decide

/-! ### The request -/

/-- A configuration that the codes name is stored, unless an order of the connection or a save stands against it. -/
theorem serveWriteConnection_codes {s : State} {n : Byte} {conn : ConnId} {k : Kind} {v : PhaseSet} (serial : Word)
    (number : n.toNat = conn.val) (nonempty : v ≠ ⟨false, false, false⟩) (two : k = .movable → 2 ≤ phaseCount v) :
    serveWriteConnection n (kindCode k) (phasesCode v) serial s =
      if (s.conn conn).motion = .queued ∨ (s.conn conn).motion = .arming ∨ (s.conn conn).motion = .armed
          ∨ (s.conn conn).motion = .fired ∨ s.saving.isSome = true then s.refuse .busy
      else ⟨{ s with
        settings := { s.settings with conns := s.settings.conns.set conn ⟨k, v, serial⟩ }
        conns := s.conns.set conn
          (rewritten (s.conn conn) (s.config conn) ⟨k, v, serial⟩ (s.setting .settleInterval)) }, .ok, []⟩ := by
  have motion := busyMotion_iff (s.conn conn).motion
  simp only [serveWriteConnection, readConn_of_val number, readConfig_codes _ nonempty two, writeConfig_eq]
  by_cases moving : (s.conn conn).motion = .queued ∨ (s.conn conn).motion.inFlight = true
  · rw [if_pos moving, if_pos (by tauto)]
  · by_cases saving : s.saving.isSome = true
    · rw [if_neg moving, if_pos saving, if_pos (by tauto)]
    · rw [if_neg moving, if_neg saving, if_neg (by tauto)]

theorem exec_writeConnection {s : State} {p : Port} (ready : Ready s p) (master : p ≠ .pp)
    (n kind allowed a b c d : Byte) : exec (.writeConnection p [n, kind, allowed, a, b, c, d]) s =
    (let r := serveWriteConnection n kind allowed (fromFour a b c d) (taken s p)
     .next (answered r.state p 0xB9 r.status.byte r.data)) := by
  have permitted : Command.writeConnection.permitted p = true := by
    cases p
    · rfl
    · rfl
    · exact absurd rfl master
  rw [exec_writeConnection_ready p _ s ready.1 ready.2 permitted rfl, fromFour_eq]
  rfl

/-- Settles O30: WRITE_CONNECTION takes the configuration, or leaves the record as it was. -/
theorem connectionIsConfigured : Obligations.ConnectionIsConfigured := by
  intro s p n kind allowed a b c d ready master
  dsimp only
  rw [exec_writeConnection ready master]
  refine ⟨fun outside => ?_, fun conn number => ⟨fun wrong => ?_, fun k v kindIs allowedIs nonempty two => ?_⟩⟩
  · rw [serveWriteConnection, readConn_eq_none outside]
    rfl
  · simp only [serveWriteConnection, readConn_of_val number, readConfig_refused _ wrong]
    rfl
  · subst kindIs allowedIs
    have write := serveWriteConnection_codes (s := taken s p) (fromFour a b c d) number nonempty two
    split
    · next busy =>
      rw [write.trans (if_pos busy)]
      rfl
    · next free =>
      rw [write.trans (if_neg free)]
      rfl

end Sys2Proof.Claims

/-!
PROOFS. A recognised poll reply (R119 to R127): the end of its request, the record that the presence machine and the
report leave, and the removal of a queued order that follows.
-/

namespace Sys2Proof.Claims

open Sys2Proof.Machine

/-! ### A connection record written twice -/

theorem setConn_setConn (s : State) (c : ConnId) (x y : Connection) : (s.setConn c x).setConn c y = s.setConn c y :=
  congrArg s.withConns (Vector.set_set ..)

theorem setConn_modConn (s : State) (c : ConnId) (x : Connection) (f : Connection → Connection) :
    (s.setConn c x).modConn c f = s.setConn c (f x) := by
  rw [State.modConn, State.setConn_conn_self, setConn_setConn]

/-! ### The presence machine (R120 to R122) -/

theorem presenceReply_recognised {s : State} {c : ConnId} {serial : Word} {y : Connection}
    (known : recognised s c serial = some y) : s.presenceReply c serial = (s.setConn c y, false) := by
  unfold recognised at known
  unfold State.presenceReply
  dsimp only at known ⊢
  rcases presence : (s.conn c).presence <;> simp only [presence] at known ⊢
  case absent =>
    split at known
    · cases known
    · next expected =>
      cases known
      rw [if_pos (by tauto)]
      rfl
  case arriving =>
    split at known
    · next same =>
      cases known
      rw [if_pos same]
      simp [Connection.answer, presence]
    · cases known
  case present =>
    split at known
    · next same =>
      cases known
      rw [if_pos same]
      simp [Connection.answer, presence]
    · cases known
  case lapsing =>
    split at known
    · cases known
    · next same =>
      rw [if_pos (not_not.mp same)]
      rcases before : (s.conn c).beforeLapse with _ | _ | _ <;> simp only [before] at known <;> cases known <;>
        simp [Connection.answer, presence, before]
  case mismatch => cases known

/-! ### The report (R125 to R128) -/

/-- The recorded phase, the log and the engine after a poll reply, from the record `y` (R126). -/
def phaseTaken (s : State) (c : ConnId) (y : Connection) (r : PollReport) : State :=
  let hand := handChange s c y r
  State.setConn
    { s with
      log :=
        match hand with
        | some (q, p) => logged s c (some q) p .localSwitch none none .observed
        | none => s.log
      engine :=
        if hand.isSome ∧ s.engine.state = .quiet then { s.engine with quietCount := s.setting .quietWindows }
        else s.engine }
    c { y with
      recordedPhase := phaseAfterPoll s c y r
      settle := if hand.isSome then s.setting .settleInterval else y.settle
      transfersToday := if hand.isSome then min (y.transfersToday + 1) 255 else y.transfersToday }

theorem phaseWritten_iff (s : State) (c : ConnId) (y : Connection) : phaseWritten s c y = true ↔
    ((s.config c).kind = .movable ∨ (s.config c).kind = .fixed) ∧ y.motion.inFlight = false := by
  unfold phaseWritten
  cases (s.config c).kind <;> cases y.motion <;> decide

/-- Without an observed local change a poll reply writes the recorded phase alone. -/
theorem phaseTaken_quiet {s : State} {c : ConnId} {y : Connection} {r : PollReport} (quiet : handChange s c y r = none)
    {q : Option Phase} (phase : phaseAfterPoll s c y r = q) :
    phaseTaken s c y r = s.setConn c { y with recordedPhase := q } := by
  simp [phaseTaken, quiet, phase, State.setConn, State.withConns]

theorem resetQuietCount_eq (s : State) : s.resetQuietCount = { s with engine :=
    if s.engine.state = .quiet then { s.engine with quietCount := s.setting .quietWindows } else s.engine } := by
  unfold State.resetQuietCount
  split
  · next quiet =>
    unfold State.enterQuiet
    rw [← quiet]
    rfl
  · rfl

/-- An observed local change is written to the log, starts the settle interval, counts as a transfer of today, and
resets the quiet count (R126). -/
theorem observeChange_eq {s : State} {c : ConnId} {y : Connection} {r : PollReport} {q p : Phase}
    (hand : handChange s c y r = some (q, p)) (phase : phaseAfterPoll s c y r = some p) :
    (s.setConn c y).observeChange c q p = phaseTaken s c y r := by
  have log : ∀ (x : Connection), (s.setConn c x).writeLog c (some q) p .localSwitch none none .observed =
      { s with log := logged s c (some q) p .localSwitch none none .observed }.setConn c x := fun _ => rfl
  unfold State.observeChange State.startSettle
  simp only [setConn_modConn, log, resetQuietCount_eq]
  unfold phaseTaken
  simp only [hand, phase, Option.isSome_some, true_and, if_true]
  rfl

/-- The recorded phase a poll reply leaves, and what goes with its change (R126). -/
theorem takePhase_eq (s : State) (c : ConnId) (y : Connection) (r : PollReport) :
    (s.setConn c y).takePhase c r = phaseTaken s c y r := by
  have written := phaseWritten_iff (s.setConn c y) c y
  unfold State.takePhase
  simp only [State.setConn_conn_self]
  by_cases writes : phaseWritten s c y = true
  · rw [if_pos (written.mp writes)]
    rcases closed : r.closedPhase with _ | p
    · have quiet : handChange s c y r = none := by
        unfold handChange
        rw [closed]
        split <;> trivial
      dsimp only
      split
      · next moving => exact (phaseTaken_quiet quiet (by simp [phaseAfterPoll, writes, closed, moving])).symm
      · next still =>
        rw [setConn_setConn]
        exact (phaseTaken_quiet quiet (by simp [phaseAfterPoll, writes, closed, still])).symm
    · have phase : phaseAfterPoll s c y r = some p := by simp [phaseAfterPoll, writes, closed]
      rcases recorded : y.recordedPhase with _ | q
      · have quiet : handChange s c y r = none := by simp [handChange, recorded]
        exact (setConn_setConn ..).trans (phaseTaken_quiet quiet phase).symm
      · have hand : handChange s c y r = if y.motion != .faulted && p != q then some (q, p) else none := by
          simp [handChange, recorded, closed, writes]
        dsimp only
        split
        · next same =>
          subst same
          rw [phaseTaken_quiet (hand.trans (by simp)) phase, ← recorded]
        · next other =>
          split
          · next faulted =>
            rw [setConn_setConn]
            exact (phaseTaken_quiet (hand.trans (by simp [faulted])) phase).symm
          · next sound => exact observeChange_eq (hand.trans (by simp [sound, other])) phase
  · have kept : phaseAfterPoll s c y r = y.recordedPhase := by simp [phaseAfterPoll, writes]
    have quiet : handChange s c y r = none := by
      unfold handChange
      split
      · simp [writes]
      · rfl
    rw [if_neg (fun h => writes (written.mpr h)), phaseTaken_quiet quiet kept]

/-- A stray arm that a report shows raises a disarm, unless one waits already (R128). -/
theorem checkStray_eq (s : State) (c : ConnId) (r : PollReport) : s.checkStray c r = { s with bus := { s.bus with
    disarmSlots := if r.unitState == .armed && !(s.conn c).motion.inFlight && (s.bus.disarmSlots.get c).isNone then
      s.bus.disarmSlots.set c (some .stray) else s.bus.disarmSlots } } := by
  unfold State.checkStray State.raiseStray
  by_cases shown : r.unitState = .armed ∧ (s.conn c).motion.inFlight = false
  · rw [if_pos shown]
    rcases slot : s.bus.disarmSlots.get c with _ | waiting
    · simp [shown, State.withBus]
    · simp
  · have hidden :
        (r.unitState == .armed && !(s.conn c).motion.inFlight && (s.bus.disarmSlots.get c).isNone) = false := by
      simpa using fun armed idle => absurd ⟨armed, idle⟩ shown
    rw [if_neg shown, hidden]
    rfl

/-- The whole of a recognised poll reply's effect on the connection record (R125 to R128). -/
theorem takePoll_eq (s : State) (c : ConnId) (y : Connection) (r : PollReport) :
    (s.setConn c y).takePoll c r = polled s c y r := by
  unfold State.takePoll State.takeReport
  rw [setConn_modConn, takePhase_eq]
  unfold phaseTaken State.setLocal
  dsimp only
  rw [setConn_modConn, checkStray_eq, State.setConn_conn_self]
  rfl

/-! ### The end of the request (R113, R117) -/

theorem freed_eq (s : State) (o : Outstanding) :
    freed s o = if o.raiser = .survey then s.endOutstanding.endSurveyPoll else s.endOutstanding := by
  unfold freed State.endSurveyPoll State.endOutstanding
  by_cases survey : o.raiser = .survey
  · by_cases last : s.bus.surveyList.isEmpty = true
    · simp [survey, last, State.withBus]
    · simp [survey, last, State.withBus]
  · simp [survey, State.withBus]

/-- A request that no transfer in flight raised is handed back to the survey alone. -/
theorem handReply_noContext {s : State} {o : Outstanding} (none : RaisedByNoContext s o) (r : Reply) (b : Bool) :
    s.handReply o r b = if o.raiser = .survey then s.endSurveyPoll else s := by
  unfold State.handReply
  rcases raiser : o.raiser with n | _ | _ | _
  · simp [none n raiser]
  · simp
  · simp
  · simp

/-- The report's effect and the end of the survey's poll do not meet. -/
theorem endSurveyPoll_polled (s : State) (c : ConnId) (y : Connection) (r : PollReport) :
    (polled s c y r).endSurveyPoll = polled s.endSurveyPoll c y r := by
  have list : (polled s c y r).bus.surveyList = s.bus.surveyList := rfl
  unfold State.endSurveyPoll
  rw [list]
  by_cases last : s.bus.surveyList.isEmpty = true
  · rw [if_pos last, if_pos last]
    rfl
  · rw [if_neg last, if_neg last]

/-! ### The removals (R99 to R101) -/

theorem queuedOrder_removed (s : State) (o : Order) (e : LogOutcome) : (removed s o e).queuedOrder o.conn = none := by
  rw [queuedOrder_none, removed_queuedConns]
  simp

theorem removeBalancer_of_none {s : State} {c : ConnId} (none : s.queuedOrder c = none) (e : LogOutcome) :
    s.removeBalancer c e = s := by
  simp [State.removeBalancer, none]

theorem supersede_of_none {s : State} {c : ConnId} (none : s.queuedOrder c = none) : s.supersede c = s := by
  simp [State.supersede, none]

/-- At most one removal follows: an order that has left the queue is not removed again. -/
theorem attachRemovals_eq (s : State) (c : ConnId) (old : Connection) :
    s.attachRemovals c old = withRemoval s c old := by
  unfold State.attachRemovals withRemoval
  have found : (s.queue.orders.find? fun o => o.conn == c) = s.queuedOrder c := rfl
  rw [found]
  rcases queued : s.queuedOrder c with _ | o
  · simp [removeBalancer_of_none queued, supersede_of_none queued]
  · obtain ⟨-, rfl⟩ := queuedOrder_some queued
    have gone := queuedOrder_removed s o
    have taken : ∀ e, s.removeQueued o.conn e = removed s o e := removeQueued_eq_removed queued
    have balancer : ∀ e, s.removeBalancer o.conn e = if o.source = .balancer then removed s o e else s := fun e => by
      simp [State.removeBalancer, queued, taken]
    have supersede : s.supersede o.conn = if (s.conn o.conn).recordedPhase = some o.target then removed s o .superseded
        else s := by
      simp [State.supersede, queued, taken]
    have lost : ∀ v : Presence, v.lost = true ↔ v = .absent ∨ v = .mismatch := fun v => by cases v <;> decide
    dsimp only
    rw [balancer, ← ite_and]
    simp only [lost, and_assoc]
    by_cases leaves : ((s.conn o.conn).presence = .absent ∨ (s.conn o.conn).presence = .mismatch)
        ∧ (s.conn o.conn).presence ≠ old.presence ∧ o.source = .balancer
    · simp only [if_pos leaves, supersede_of_none (gone _), removeBalancer_of_none (gone _), ite_self]
    · simp only [if_neg leaves, supersede, ← ite_and]
      by_cases becomes : (s.conn o.conn).recordedPhase ≠ old.recordedPhase
          ∧ (s.conn o.conn).recordedPhase = some o.target
      · simp only [if_pos becomes, removeBalancer_of_none (gone _), ite_self]
      · simp only [if_neg becomes, balancer, ← ite_and, and_assoc]

/-! ### The reply -/

/-- Settles O44: a recognised poll reply ends its request, writes the record, and may remove the queued order. -/
theorem pollReplyIsTaken : Obligations.PollReplyIsTaken := by
  intro s o serial r y on outstanding poll none used known
  refine ⟨_, (whilePowered_on on _), ?_⟩
  have answers : o.answeredBy (unitAddress o.conn) o.tag (.poll r) = true := by
    simp [Outstanding.answeredBy, poll, Reply.answers]
  have inUse : s.endOutstanding.used o.conn = true := (bne_iff_ne ..).mpr used
  have seen : s.endOutstanding.presenceReply o.conn serial = (s.endOutstanding.setConn o.conn y, false) :=
    presenceReply_recognised (s := s.endOutstanding) known
  have unraised : RaisedByNoContext (polled s.endOutstanding o.conn y r) o := none
  have ended : (polled s.endOutstanding o.conn y r).handReply o (.poll r) false = polled (freed s o) o.conn y r := by
    rw [handReply_noContext unraised, endSurveyPoll_polled, freed_eq]
    split <;> rfl
  unfold TransferTail State.busReply
  rw [outstanding]
  dsimp only
  rw [if_pos answers]
  unfold State.goodReply
  dsimp only
  rw [if_pos inUse, seen]
  dsimp only [State.takeContent]
  rw [if_neg (by decide), takePoll_eq, ended, attachRemovals_eq]
  rfl

end Sys2Proof.Claims

/-!
PROOFS. The dispatch choice and the last parts of an event (R18, R103, R104, R115, R131, R165).
-/

namespace Sys2Proof.Claims

open Sys2Proof.Machine

/-! ### The order that goes first (R18, R104) -/

theorem foreignTo_eq_false (v : PinSet) (src : Source) : v.foreignTo src = false ↔
    (∀ p : Port, v.has p = true → src = .op ∧ p = .op ∨ src = .sp ∧ p = .sp) ∧ v.localSwitch = false := by
  have ports : (∀ p : Port, v.has p = true → src = .op ∧ p = .op ∨ src = .sp ∧ p = .sp) ↔
      (v.op = true → src = .op) ∧ (v.sp = true → src = .sp) ∧ v.pp = false := by
    constructor
    · intro own
      exact ⟨fun h => by simpa using own .op h, fun h => by simpa using own .sp h, by simpa [PinSet.has] using own .pp⟩
    · rintro ⟨op, sp, pp⟩ p member
      cases p
      · exact .inl ⟨op member, rfl⟩
      · exact .inr ⟨sp member, rfl⟩
      · exact absurd (show v.pp = true from member) (by simp [pp])
  rw [ports]
  simp only [PinSet.foreignTo, Bool.or_eq_false_iff, Bool.and_eq_false_imp, bne_eq_false_iff_eq, and_assoc]

/-- The orders a dispatch choice considers are the eligible ones (R18, R104). -/
theorem eligible_iff (s : State) (o : Order) :
    (decide (1 ≤ o.priority) && s.dispatchable o) = true ↔ Eligible s o := by
  have budget : (o.source != .balancer || decide ((s.conn o.conn).transfersToday < s.setting .dailyBudget)) = true ↔
      (o.source = .balancer → (s.conn o.conn).transfersToday < s.setting .dailyBudget) := by
    rw [Bool.or_eq_true, bne_iff_ne, decide_eq_true_eq, imp_iff_not_or]
  have pins := foreignTo_eq_false (s.conn o.conn).pins o.source
  unfold Eligible State.dispatchable
  simp only [Bool.and_eq_true, decide_eq_true_eq, beq_iff_eq, Bool.not_eq_true', budget, pins, and_assoc]

/-- An order goes no sooner than another: its priority is lower, or the same with a connection number no lower
(R104). -/
def NoSooner (q o : Order) : Prop := q.priority < o.priority ∨ q.priority = o.priority ∧ o.conn ≤ q.conn

theorem NoSooner.refl (o : Order) : NoSooner o o := .inr ⟨rfl, Fin.le_refl _⟩

theorem NoSooner.trans {a b c : Order} (h : NoSooner a b) (g : NoSooner b c) : NoSooner a c := by
  unfold NoSooner at *
  simp only [Fin.le_def] at *
  omega

theorem before_iff (o p : Order) : o.before p = true ↔ ¬ NoSooner o p := by
  simp only [Order.before, NoSooner, Bool.or_eq_true, Bool.and_eq_true, decide_eq_true_eq, beq_iff_eq, Fin.le_def,
    Fin.lt_def]
  omega

theorem noSooner_of_before {o p : Order} (before : o.before p = true) : NoSooner p o := by
  rw [before_iff] at before
  unfold NoSooner at *
  simp only [Fin.le_def] at *
  omega

/-- No order of a list goes sooner than the one that the choice ends with. -/
theorem foldl_before_noSooner (l : List Order) (a : Order) :
    ∀ q ∈ a :: l, NoSooner q (l.foldl (fun best p => if p.before best then p else best) a) := by
  induction l generalizing a with
  | nil =>
    intro q member
    rw [List.mem_singleton.mp member]
    exact NoSooner.refl a
  | cons b l ih =>
    have both : NoSooner a (if b.before a then b else a) ∧ NoSooner b (if b.before a then b else a) := by
      split
      · next before => exact ⟨noSooner_of_before before, NoSooner.refl b⟩
      · next after => exact ⟨NoSooner.refl a, not_not.mp fun h => after ((before_iff b a).mpr h)⟩
    intro q member
    have chosen := ih (if b.before a then b else a)
    have first := chosen _ List.mem_cons_self
    rcases List.mem_cons.mp member with rfl | member
    · exact both.1.trans first
    · rcases List.mem_cons.mp member with rfl | member
      · exact both.2.trans first
      · exact chosen q (List.mem_cons_of_mem _ member)

theorem bestOrder_some {s : State} {o : Order} (best : s.bestOrder = some o) : o ∈ s.queue.orders ∧ Eligible s o
    ∧ ∀ q ∈ s.queue.orders, Eligible s q → q.priority < o.priority ∨ q.priority = o.priority ∧ o.conn ≤ q.conn := by
  have listed : ∀ q, q ∈ s.queue.orders.filter (fun o => decide (1 ≤ o.priority) && s.dispatchable o) ↔
      q ∈ s.queue.orders ∧ Eligible s q := fun q => by rw [List.mem_filter, eligible_iff]
  unfold State.bestOrder at best
  split at best
  · cases best
  · next a l considered =>
    rw [considered] at listed
    obtain rfl := Option.some.inj best
    have member := (listed _).mp (List.mem_cons.mpr (foldl_pick (fun (p b : Order) => p.before b) l a))
    exact ⟨member.1, member.2, fun q queued eligible =>
      foldl_before_noSooner l a q ((listed q).mpr ⟨queued, eligible⟩)⟩

theorem bestOrder_none {s : State} (none : s.bestOrder = none) : ∀ q ∈ s.queue.orders, ¬ Eligible s q := by
  unfold State.bestOrder at none
  split at none
  · next considered =>
    intro q queued eligible
    exact List.filter_eq_nil_iff.mp considered q queued ((eligible_iff s q).mpr eligible)
  · cases none

/-! ### The dispatch choice (R103) -/

theorem movesAllowed_eq_false {s : State} (stopped : s.hold.op = true ∨ s.hold.pp = true ∨ s.restartDeferred = true) :
    s.movesAllowed = false := by
  rcases stopped with h | h | h <;> simp [State.movesAllowed, HoldSet.nonempty, h]

theorem movesAllowed_of {s : State} (hold : s.hold = ⟨false, false⟩) (restart : s.restartDeferred = false) :
    s.movesAllowed = true := by
  simp [State.movesAllowed, HoldSet.nonempty, hold, restart]

theorem freeContext_eq (s : State) : s.freeContext =
    if s.context .first = none then some .first else if s.context .second = none then some .second else none := by
  simp only [State.freeContext, Option.isNone_iff_eq_none]

theorem freeContext_eq_none {s : State} (full : s.freeContext = none) (k : CtxId) : s.context k ≠ none := by
  rw [freeContext_eq] at full
  split at full
  · cases full
  · next first =>
    split at full
    · cases full
    · next second =>
      cases k
      · exact first
      · exact second

theorem dispatchOnce_stopped {s : State} (stopped : s.movesAllowed = false) : s.dispatchOnce = s := by
  simp [State.dispatchOnce, stopped]

theorem dispatchOnce_idle {s : State} (idle : s.freeContext = none ∨ s.bestOrder = none) : s.dispatchOnce = s := by
  unfold State.dispatchOnce
  split
  · split
    · next k o free best => rcases idle with h | h <;> simp_all
    · rfl
  · rfl

theorem dispatchOnce_dispatched {s : State} {k : CtxId} {o : Order} (free : s.freeContext = some k)
    (best : s.bestOrder = some o) (allowed : s.movesAllowed = true) : s.dispatchOnce = dispatched s k o := by
  rw [State.dispatchOnce, if_pos allowed, free, best]
  rfl

/-- No context is free, or no order may be dispatched. -/
def ChoiceDone (s : State) : Prop := (∀ k, s.context k ≠ none) ∨ ∀ q ∈ s.queue.orders, ¬ Eligible s q

/-- A round ends the choice, or it fills a free context and keeps the other. -/
theorem dispatchOnce_cases {s : State} (allowed : s.movesAllowed = true) : (s.dispatchOnce = s ∧ ChoiceDone s)
    ∨ ∃ k, s.context k = none ∧ s.dispatchOnce.context k ≠ none
      ∧ ∀ j, s.context j ≠ none → s.dispatchOnce.context j ≠ none := by
  rcases free : s.freeContext with _ | k
  · exact .inl ⟨dispatchOnce_idle (.inl free), .inl (freeContext_eq_none free)⟩
  · rcases best : s.bestOrder with _ | o
    · exact .inl ⟨dispatchOnce_idle (.inr best), .inr (bestOrder_none best)⟩
    · have once : s.dispatchOnce = s.dispatch k o := by rw [State.dispatchOnce, if_pos allowed, free, best]
      refine .inr ⟨k, freeContext_none s k free, ?_, fun j kept => ?_⟩
      · rw [once, dispatch_context, if_pos rfl]
        exact Option.some_ne_none _
      · rw [once, dispatch_context]
        split
        · exact Option.some_ne_none _
        · exact kept

theorem dispatchOnce_movesAllowed (s : State) : s.dispatchOnce.movesAllowed = s.movesAllowed := by
  have hold : s.dispatchOnce.hold = s.hold := by rw [(dispatchOnce_pre s).1]
  rw [State.movesAllowed, hold, dispatchOnce_restartDeferred]
  rfl

/-- Two rounds leave no context free or nothing to dispatch, for there are two contexts (R103). -/
theorem dispatchChoice_done {s : State} (allowed : s.movesAllowed = true) : ChoiceDone s.dispatchChoice := by
  unfold State.dispatchChoice
  rcases dispatchOnce_cases allowed with ⟨same, done⟩ | ⟨k, free, filled, -⟩
  · rw [same, same]
    exact done
  · rcases dispatchOnce_cases ((dispatchOnce_movesAllowed s).trans allowed) with ⟨same, done⟩ | ⟨j, left, taken, kept⟩
    · rw [same]
      exact done
    · have other : ∀ i, i = k ∨ i = j := fun i => by
        cases i <;> cases k <;> cases j <;> simp_all
      exact .inl fun i => (other i).elim (fun h => h ▸ kept k filled) (fun h => h ▸ taken)

/-! ### The fire slot (R131) -/

theorem earliest_none {s : State} {test : CtxId → Context → Bool}
    (fails : ∀ k x, s.context k = some x → test k x = false) : s.earliest test = none := by
  have empty : (s.inFlight.filter fun e => test e.1 e.2) = [] := by
    refine List.filter_eq_nil_iff.mpr fun e member => ?_
    rw [fails e.1 e.2 ((inFlight_mem s e.1 e.2).mp member)]
    exact Bool.false_ne_true
  simp [State.earliest, empty]

/-- The context that was dispatched earlier goes first (R115, R131). -/
theorem earliest_of_least {s : State} {test : CtxId → Context → Bool} {k : CtxId} {x : Context}
    (flight : s.context k = some x) (passes : test k x = true)
    (least : ∀ j y, s.context j = some y → test j y = true → j = k ∨ x.dispatchNumber < y.dispatchNumber) :
    s.earliest test = some (k, x) := by
  have other : ∀ j, j ≠ k → ∀ y, s.context j = some y → test j y = true → x.dispatchNumber < y.dispatchNumber :=
    fun j ne y hy hj => (least j y hy hj).resolve_left ne
  unfold State.earliest State.inFlight
  cases k
  · have second := other .second (by decide)
    rcases two : s.context .second with _ | y
    · simp [flight, passes]
    · by_cases hy : test .second y = true
      · have later := second y two hy
        simp [flight, passes, hy, Nat.not_lt.mpr later.le]
      · simp [flight, passes, hy]
  · have first := other .first (by decide)
    rcases one : s.context .first with _ | y
    · simp [flight, passes]
    · by_cases hy : test .first y = true
      · have later := first y one hy
        simp [flight, passes, hy, later]
      · simp [flight, passes, hy]

theorem takeFireSlot_idle {s : State} (idle : s.transfers.fireSlot ≠ none ∨ s.hold.op = true ∨ s.hold.pp = true
    ∨ s.restartDeferred = true ∨ ∀ k x, s.context k = some x → x.state ≠ .armed) : s.takeFireSlot = s := by
  have unarmed : (∀ k x, s.context k = some x → x.state ≠ .armed) → s.takeFireSlot = s := fun h => by
    have none : s.earliest (fun _ x => x.state == .armed) = none :=
      earliest_none fun k x flight => beq_eq_false_iff_ne.mpr (h k x flight)
    simp [State.takeFireSlot, none]
  have stopped : s.movesAllowed = false → s.takeFireSlot = s := fun h => by simp [State.takeFireSlot, h]
  rcases idle with held | op | pp | restart | none
  · simp [State.takeFireSlot, held]
  · exact stopped (movesAllowed_eq_false (.inl op))
  · exact stopped (movesAllowed_eq_false (.inr (.inl pp)))
  · exact stopped (movesAllowed_eq_false (.inr (.inr restart)))
  · exact unarmed none

theorem takeFireSlot_taken {s : State} {k : CtxId} {x : Context} (free : s.transfers.fireSlot = none)
    (allowed : s.movesAllowed = true) (flight : s.context k = some x) (armed : x.state = .armed)
    (least : ∀ j y, s.context j = some y → y.state = .armed → j = k ∨ x.dispatchNumber < y.dispatchNumber) :
    s.takeFireSlot = slotTaken s k x := by
  have first : s.earliest (fun _ x => x.state == .armed) = some (k, x) :=
    earliest_of_least flight (beq_iff_eq.mpr armed) fun j y hy hj => least j y hy (beq_iff_eq.mp hj)
  rw [State.takeFireSlot, free, allowed, first]
  rfl

/-! ### The arbiter changes the bus and the request slots alone (R115) -/

/-- The bus and the contexts' request slots have changed, and nothing else: a context in flight keeps all but its slot
and the arm hold sent with its ARM. -/
def SlotsAlone (s t : State) : Prop :=
  t = { s with bus := t.bus, transfers := t.transfers }
    ∧ t.transfers = { s.transfers with first := t.transfers.first, second := t.transfers.second }
    ∧ (∀ k, s.context k = none → t.context k = none)
    ∧ ∀ k x, s.context k = some x → ∃ y, t.context k = some y
      ∧ y = { x with slot := y.slot, armHoldSent := y.armHoldSent }

theorem SlotsAlone.of_bus (s : State) (b : Bus) : SlotsAlone s (s.withBus b) :=
  ⟨rfl, rfl, fun _ none => none, fun _ x flight => ⟨x, flight, rfl⟩⟩

/-- A context's request leaves its slot for the bus. -/
theorem SlotsAlone.of_context {s : State} {k : CtxId} {x y : Context} (flight : s.context k = some x)
    (same : y = { x with slot := y.slot, armHoldSent := y.armHoldSent }) (b : Bus) :
    SlotsAlone s ((s.setContext k (some y)).withBus b) := by
  have contexts : ∀ j, ((s.setContext k (some y)).withBus b).context j = if j = k then some y else s.context j :=
    fun j => State.setContext_context s k j (some y)
  refine ⟨rfl, by cases k <;> rfl, fun j none => ?_, fun j z inFlight => ?_⟩
  · rw [contexts, if_neg (fun h => by rw [h, flight] at none; cases none), none]
  · rw [contexts]
    by_cases own : j = k
    · subst own
      obtain rfl : x = z := Option.some.inj (flight.symm.trans inFlight)
      exact ⟨y, if_pos rfl, same⟩
    · exact ⟨z, (if_neg own).trans inFlight, rfl⟩

theorem grantContext_slotsAlone {s : State} {k : CtxId} {x : Context} (flight : s.context k = some x) (r : CtxRequest) :
    SlotsAlone s (s.grantContext k x r) := by
  cases r
  · exact SlotsAlone.of_context flight rfl _
  · exact SlotsAlone.of_context flight rfl _
  · exact SlotsAlone.of_context flight rfl _

theorem grantSurvey_slotsAlone (s : State) : SlotsAlone s s.grantSurvey := by
  unfold State.grantSurvey
  split
  · split
    · exact SlotsAlone.of_bus s _
    · exact SlotsAlone.of_bus s _
  · exact SlotsAlone.of_bus s s.bus

theorem grantRoutine_slotsAlone (s : State) : SlotsAlone s s.grantRoutine := by
  unfold State.grantRoutine
  split
  · dsimp only
    split
    · exact SlotsAlone.of_bus s _
    · exact grantSurvey_slotsAlone (s.withBus _)
  · exact grantSurvey_slotsAlone s

theorem arbitrate_slotsAlone (s : State) : SlotsAlone s s.arbitrate := by
  have granted : ∀ r k x, s.waitingRequest r = some (k, x) → SlotsAlone s (s.grantContext k x r) :=
    fun r k x waiting => grantContext_slotsAlone (earliest_some s _ _ waiting).1 r
  unfold State.arbitrate
  split
  · exact SlotsAlone.of_bus s s.bus
  · split
    · next k x fire => exact granted _ k x fire
    · split
      · exact SlotsAlone.of_bus s _
      · split
        · next k x confirm => exact granted _ k x confirm
        · split
          · next k x arm => exact granted _ k x arm
          · exact grantRoutine_slotsAlone s

/-! ### The last parts of an event -/

/-- Settles O20: the dispatch choice takes the order that goes first, and the last parts do what they say alone. -/
theorem dispatchTakesTheHighest : Obligations.DispatchTakesTheHighest := by
  intro s
  refine ⟨fun o => bestOrder_some, bestOrder_none, fun stopped => ?_, fun k o free best hold restart => ?_,
    dispatchOnce_idle, freeContext_eq s, rfl, fun hold restart => dispatchChoice_done (movesAllowed_of hold restart),
    takeFireSlot_idle, fun k x free hold restart => takeFireSlot_taken free (movesAllowed_of hold restart),
    arbitrate_slotsAlone s, lines_setLines s, rfl, rfl⟩
  · have once := dispatchOnce_stopped (movesAllowed_eq_false stopped)
    rw [State.dispatchChoice, once, once]
  · exact dispatchOnce_dispatched free best (movesAllowed_of hold restart)

end Sys2Proof.Claims

/-!
PROOFS. The metering line (R25, R179): what the bytes of a record do one by one, and the request that shows the metering
input (R39, R181).
-/

namespace Sys2Proof.Claims

open Sys2Proof.Machine

/-! ### READ_PHASES (R39) -/

/-- Settles O11: the response is the metering input's fields in the order of R181. -/
theorem phasesShowTheMeteringInput : Obligations.PhasesShowTheMeteringInput := by
  intro s p ready
  rw [exec_readPhases_ready p [] s ready.1 ready.2 (by cases p <;> rfl) rfl, serve_readPhases]
  simp only [serveReadPhases, PhaseState.bytes, meteringCode_eq, flagCode_eq, twoOf_eq, holdoverCode_eq, twoOfInt_eq]
  rfl

/-! ### One byte on the metering line (R25) -/

/-- The state with the record under assembly replaced: none while the line waits for a start byte. -/
def assembling (s : State) (rx : Option (List Byte)) : State := s.withMetering { s.metering with rx := rx }

@[simp] theorem assembling_rx (s : State) (rx : Option (List Byte)) : (assembling s rx).metering.rx = rx := rfl

@[simp] theorem assembling_assembling (s : State) (rx rx' : Option (List Byte)) :
    assembling (assembling s rx) rx' = assembling s rx' := rfl

theorem assembling_of_rx {s : State} {rx : Option (List Byte)} (h : s.metering.rx = rx) : assembling s rx = s := by
  subst h
  rfl

theorem meteringByte_start {s : State} (waiting : s.metering.rx = none) :
    s.meteringByte 0x3C = assembling s (some []) := by
  simp [State.meteringByte, meteringRxByte, waiting, assembling]

theorem meteringByte_ignored {s : State} (waiting : s.metering.rx = none) {b : Byte} (other : b ≠ 0x3C) :
    s.meteringByte b = s := by
  have idle : meteringRxByte s.metering.rx b = (none, none) := by rw [waiting, meteringRxByte, if_neg other]
  rw [State.meteringByte, idle]
  exact assembling_of_rx waiting

theorem meteringByte_partial {s : State} {got : List Byte} (h : s.metering.rx = some got) (room : got.length < 21)
    (b : Byte) : s.meteringByte b = assembling s (some (got ++ [b])) := by
  have more : got.length + 1 < Config.recordBytes := by simp only [Config.recordBytes]; omega
  simp [State.meteringByte, meteringRxByte, h, more, assembling]

/-- The last of the 23 bytes: the record is accepted when its CRC matches, and dropped otherwise. -/
theorem meteringByte_last {s : State} {body : List Byte} {high : Byte} (h : s.metering.rx = some (body ++ [high]))
    (full : body.length = 20) (low : Byte) :
    s.meteringByte low = if crc16 body = readHalf high low then (assembling s none).acceptWindow (parseRecord body)
      else assembling s none := by
  have last : ¬ (body ++ [high]).length + 1 < Config.recordBytes := by simp [Config.recordBytes, full]
  have completed : meteringRxByte s.metering.rx low =
      (none, if crc16 body = readHalf high low then some (parseRecord body) else none) := by
    simp only [h, meteringRxByte, if_neg last, ← full, List.take_left', List.getD_append_right, le_refl, Nat.sub_self,
      List.getD_cons_zero]
  rw [State.meteringByte, completed]
  by_cases good : crc16 body = readHalf high low
  · simp only [if_pos good]
    rfl
  · simp only [if_neg good]
    rfl

/-! ### The bytes of a row (R25, R179) -/

theorem meteringBytes_cons (s : State) (b : Byte) (bs : List Byte) :
    s.meteringBytes (b :: bs) = (s.meteringByte b).meteringBytes bs := rfl

theorem meteringBytes_append (s : State) (bs cs : List Byte) :
    s.meteringBytes (bs ++ cs) = (s.meteringBytes bs).meteringBytes cs := List.foldl_append

/-- Bytes that leave a record incomplete join it. -/
theorem meteringBytes_partial {s : State} {got : List Byte} (h : s.metering.rx = some got) (bs : List Byte)
    (room : got.length + bs.length < 22) : s.meteringBytes bs = assembling s (some (got ++ bs)) := by
  induction bs generalizing s got with
  | nil => rw [List.append_nil, assembling_of_rx h]; rfl
  | cons b bs ih =>
    simp only [List.length_cons] at room
    rw [meteringBytes_cons, meteringByte_partial h (by omega), ih (assembling_rx _ _) (by simp; omega)]
    simp

/-- A start byte on a line that waits, and bytes behind it that leave the record incomplete. -/
theorem meteringBytes_begun {s : State} (waiting : s.metering.rx = none) {bs : List Byte} (room : bs.length < 22) :
    s.meteringBytes (0x3C :: bs) = assembling s (some bs) := by
  rw [meteringBytes_cons, meteringByte_start waiting,
    meteringBytes_partial (assembling_rx _ _) bs (by simpa using room)]
  simp

/-- The 23 bytes of a whole record on a line that waits. -/
theorem meteringBytes_record {s : State} (waiting : s.metering.rx = none) {body : List Byte} (full : body.length = 20)
    (high low : Byte) : s.meteringBytes (0x3C :: (body ++ [high, low])) =
      if crc16 body = readHalf high low then (assembling s none).acceptWindow (parseRecord body) else s := by
  have parts : 0x3C :: (body ++ [high, low]) = (0x3C :: (body ++ [high])) ++ [low] := by simp
  rw [parts, meteringBytes_append, meteringBytes_begun waiting (by simp [full])]
  show State.meteringByte _ low = _
  rw [meteringByte_last (assembling_rx _ _) full, assembling_assembling, assembling_of_rx waiting]

/-- What a row's bytes do behind part of a record they do behind the same part on a line that waits. -/
theorem meteringBytes_resumed {s : State} {got : List Byte} (h : s.metering.rx = some got) (room : got.length < 22)
    (more : List Byte) : s.meteringBytes more = (assembling s none).meteringBytes (0x3C :: (got ++ more)) := by
  have parts : 0x3C :: (got ++ more) = (0x3C :: got) ++ more := by simp
  rw [parts, meteringBytes_append, meteringBytes_begun (assembling_rx _ _) room, assembling_assembling,
    assembling_of_rx h]

/-! ### The two rows -/

theorem exec_meteringRecordDropped {s : State} (on : s.powered = true) (bs : List Byte) :
    exec (.meteringRecordDropped bs) s = .next (s.meteringBytes bs) := whilePowered_on on _

theorem exec_meteringByteGap {s : State} (on : s.powered = true) (bs : List Byte) :
    exec (.meteringByteGap bs) s = .next (assembling (s.meteringBytes bs) none) := whilePowered_on on _

/-- Settles O39: the CRC that does not match and the gap both leave the line waiting, and bytes behind part of a record
go on with it. -/
theorem badRecordsHaveNoEffect : Obligations.BadRecordsHaveNoEffect := by
  refine ⟨fun s body on waiting => ⟨fun high low full wrong => ?_, fun room => ⟨?_, ?_⟩, ?_, fun b other => ⟨?_, ?_⟩⟩,
    fun s got on h => ⟨?_, fun room more => ⟨?_, ?_⟩⟩⟩
  · rw [crcOf_eq, fromTwo_eq] at wrong
    rw [exec_meteringRecordDropped on, meteringBytes_record waiting full, if_neg wrong]
  · rw [exec_meteringByteGap on, meteringBytes_begun waiting room, assembling_assembling, assembling_of_rx waiting]
  · rw [exec_meteringRecordDropped on, meteringBytes_begun waiting room]
    rfl
  · rw [exec_meteringByteGap on, show s.meteringBytes [] = s from rfl, assembling_of_rx waiting]
  · rw [exec_meteringRecordDropped on, exec_meteringRecordDropped on, meteringBytes_cons,
      meteringByte_ignored waiting other]
  · rw [exec_meteringByteGap on, exec_meteringByteGap on, meteringBytes_cons, meteringByte_ignored waiting other]
  · rw [exec_meteringByteGap on]
    rfl
  · rw [exec_meteringRecordDropped on, meteringBytes_resumed h room]
    exact (exec_meteringRecordDropped (s := assembling s none) on _).symm
  · rw [exec_meteringByteGap on, meteringBytes_resumed h room]
    exact (exec_meteringByteGap (s := assembling s none) on _).symm

/-! ### A good record (R179) -/

theorem readHalf_halves (h : Half) : readHalf (h.extractLsb' 8 8) (h.extractLsb' 0 8) = h := by
  rw [readHalf, BitVec.extractLsb'_append_extractLsb'_eq_extractLsb' (by rfl)]
  exact BitVec.extractLsb'_eq_self

/-- The 20 bytes between the start byte and the CRC: the sequence, the figures of each phase, the valid bits. -/
def recordBody (r : WindowRecord) (valid : Byte) : List Byte :=
  let figures (q : PhaseSample) : List Byte := twoBytes q.power ++ twoBytes q.voltage ++ twoBytes q.current
  r.sequence :: (figures r.phases.p1 ++ figures r.phases.p2 ++ figures r.phases.p3 ++ [valid])

theorem recordBody_length (r : WindowRecord) (valid : Byte) : (recordBody r valid).length = 20 := by
  simp [recordBody, twoBytes]

/-- The fields of a record are read back from its bytes, whatever the other bits of the valid byte (R179). -/
theorem parseRecord_recordBody {r : WindowRecord} {valid : Byte} (one : valid.getLsbD 0 = r.phases.p1.valid)
    (two : valid.getLsbD 1 = r.phases.p2.valid) (three : valid.getLsbD 2 = r.phases.p3.valid) :
    parseRecord (recordBody r valid) = r := by
  simp [-BitVec.getLsbD_eq_getElem, parseRecord, recordBody, halfBytes, readHalf_halves, one, two, three]

theorem exec_acceptedWindow {s : State} (on : s.powered = true) (r : WindowRecord) :
    exec (.acceptedWindow r) s = .next ((assembling s none).acceptWindow r) := whilePowered_on on _

/-- Settles O40: the 23 bytes end in the CRC of the 20 before it, so they are accepted as the record they spell. -/
theorem recordBytesGiveTheWindow : Obligations.RecordBytesGiveTheWindow := by
  intro s r valid on waiting one two three
  have full := recordBody_length r valid
  refine ⟨by simp [twoBytes], ?_⟩
  show exec (.meteringRecordDropped (0x3C :: (recordBody r valid ++ twoBytes (crcOf (recordBody r valid))))) s = _
  rw [twoBytes_eq, crcOf_eq, halfBytes, exec_meteringRecordDropped on, meteringBytes_record waiting full,
    if_pos (readHalf_halves _).symm, parseRecord_recordBody one two three, exec_acceptedWindow on]

end Sys2Proof.Claims

/-!
PROOFS. The balance engine's answer to its stopping conditions (R72 to R74), the raised alarm conditions (R162), and the
staleness timer's expiry (R29, R37).
-/

namespace Sys2Proof.Claims

open Sys2Proof.Machine

/-! ### Raised conditions (R162) -/

@[simp] theorem alarmSet_has_insert (v : AlarmSet) (a b : Alarm) :
    (v.insert a).has b = true ↔ v.has b = true ∨ b = a := by
  cases a <;> cases b <;> simp [AlarmSet.insert, AlarmSet.has]

theorem raise_has (s : State) (a b : Alarm) (p : Port) :
    ((s.raise a).alarms.get p).has b = true ↔ (s.alarms.get p).has b = true ∨ b = a := by
  simp [State.raise]

theorem raiseIf_has (s : State) (c : Bool) (a b : Alarm) (p : Port) :
    ((s.raiseIf c a).alarms.get p).has b = true ↔ (s.alarms.get p).has b = true ∨ b = a ∧ c = true := by
  cases c <;> simp [State.raiseIf, raise_has]

/-! ### The stopping conditions (R72 to R74) -/

theorem stopping_eq (s : State) : s.stopping = stoppedAs s := by
  simp [State.stopping, stoppedAs, State.starved, PerPhase.any, HoldSet.nonempty, or_assoc]

theorem running_eq (e : EngineState) : e.running = (e == .watch || e == .waiting || e == .quiet) := by cases e <;> rfl

theorem engineReviewed_of_stopped {s : State} {st : EngineState} (stopped : stoppedAs s = some st) :
    engineReviewed s = if s.engine.state.running then
        { s.engine with state := st, windowCount := 0, quietCount := 0, pendingTrigger := none, deferred := none }
      else { s.engine with state := st } := by
  rw [engineReviewed, stopped, running_eq]

theorem engineReviewed_of_not_stopped {s : State} (free : stoppedAs s = none) :
    engineReviewed s = if s.engine.state.running then s.engine
      else { s.engine with state := .quiet, quietCount := s.setting .quietWindows } := by
  rw [engineReviewed, free, running_eq]

theorem reviewStopping_eq (s : State) : s.reviewStopping = s.withEngine (engineReviewed s) := by
  rw [State.reviewStopping, stopping_eq]
  rcases stopped : stoppedAs s with _ | st
  · rw [engineReviewed_of_not_stopped stopped]
    exact (apply_ite s.withEngine _ _ _).symm
  · rw [engineReviewed_of_stopped stopped]
    exact (apply_ite s.withEngine _ _ _).symm

/-! ### Staleness (R29) -/

/-- Settles O37: the expiry of a running timer is the review of a state whose metering input has been lost. -/
theorem stalenessKeepsTheFigures : Obligations.StalenessKeepsTheFigures := by
  intro s on
  have expiry : exec .stalenessExpiry s = .next s.expireStaleness := whilePowered_on on _
  rw [expiry, State.expireStaleness]
  refine ⟨fun stopped => ?_, fun running => ?_⟩
  · rw [stopped]
    rfl
  · rw [if_pos (Option.isSome_iff_ne_none.mpr running), reviewStopping_eq]
    exact ⟨_, rfl, rfl, rfl, fun p a => raise_has s .meteringLost a p, lines_setLines _, rfl⟩

end Sys2Proof.Claims

/-!
PROOFS. A pass (R17, R45 to R47, R65 to R67, R79, R95) and a pass that falls due (R77, R78).
-/

namespace Sys2Proof.Claims

open Sys2Proof.Machine

/-! ### What a pass considers (R17, R47) -/

theorem eligibleForPass_iff (s : State) (c : ConnId) : s.eligibleForPass c = true ↔ ForPass s c := by
  have pins : ∀ v : PinSet, v.isEmpty = true ↔ v = ⟨false, false, false, false⟩ := by
    rintro ⟨a, b, c, d⟩
    revert a b c d
    decide
  simp [State.eligibleForPass, ForPass, pins, Option.isSome_iff_ne_none, and_assoc]

theorem eligible_eq_some (s : State) (c : ConnId) (e : Machine.Eligible) :
    s.eligible c = some e ↔ ForPass s c ∧ (s.conn c).recordedPhase = some e.source ∧ e = asRead s c e.source := by
  unfold State.eligible
  by_cases passes : ForPass s c
  · rw [if_pos ((eligibleForPass_iff s c).mpr passes)]
    rcases phase : (s.conn c).recordedPhase with _ | a
    · simp
    · refine ⟨fun read => ?_, fun ⟨_, source, read⟩ => ?_⟩
      · obtain rfl := Option.some.inj read
        exact ⟨passes, rfl, rfl⟩
      · rw [read, ← Option.some.inj source]
        rfl
  · rw [if_neg (mt (eligibleForPass_iff s c).mp passes)]
    simp [passes]

theorem eligible_conn {s : State} {c : ConnId} {e : Machine.Eligible} (h : s.eligible c = some e) : e.conn = c := by
  rw [((eligible_eq_some s c e).mp h).2.2]
  rfl

/-- The connections a pass considers, in ascending number (R47). -/
theorem considered_eligible (s : State) : Considered s (allConns.filterMap s.eligible) := by
  refine ⟨fun e => ?_, ?_⟩
  · rw [← eligible_eq_some, List.mem_filterMap]
    refine ⟨fun ⟨c, _, h⟩ => eligible_conn h ▸ h, fun h => ⟨e.conn, List.mem_finRange _, h⟩⟩
  · refine List.Pairwise.filterMap _ (fun c d lt e he f hf => ?_) (List.pairwise_lt_finRange 64)
    rwa [eligible_conn he, eligible_conn hf]

/-! ### The orders of a plan (R66, R95) -/

theorem occupancy_enqueue (s : State) (c : ConnId) (target : Phase) (src : Source) (priority life : Nat)
    (trigger : Option TriggerId) (gain : Option Nat) :
    (s.enqueue c target src priority life trigger gain).occupancy = s.occupancy + 1 := by
  simp [State.occupancy, State.enqueue, State.unfiredContexts, State.inFlight, State.context]
  omega

/-- The plan's moves join the queue as long as it has room, the first ones first. -/
theorem offer_eq (trigger : Option TriggerId) (plan : List PlanEntry) (s : State) :
    s.offer trigger plan = (ordersPlaced s trigger (plan.take (min plan.length (16 - s.occupancy))),
      min plan.length (16 - s.occupancy)) := by
  induction plan generalizing s with
  | nil => simp [State.offer, ordersPlaced]
  | cons e plan ih =>
    unfold State.offer
    split
    · next room =>
      simp only [Config.queueRoom] at room
      have step : min (e :: plan).length (16 - s.occupancy) = min plan.length (16 - (s.occupancy + 1)) + 1 := by
        simp only [List.length_cons]
        omega
      rw [ih, occupancy_enqueue, step]
      rfl
    · next full =>
      simp only [Config.queueRoom] at full
      have none : 16 - s.occupancy = 0 := by omega
      simp [none, ordersPlaced]

theorem ordersPlaced_engine (trigger : Option TriggerId) (plan : List PlanEntry) (s : State) :
    (ordersPlaced s trigger plan).engine = s.engine := by
  unfold ordersPlaced
  exact foldl_keeps _ State.engine (fun _ _ => by rfl) plan s

/-! ### The pass (R46, R62, R66, R67, R79) -/

theorem unbalanceIndex_eq (powers : PerPhase Int) (rating : Nat) :
    unbalanceIndex (spread powers) rating = indexOf powers rating := rfl

theorem runPass_passRun (s : State) (trigger : Option TriggerId) : PassRun s (s.runPass trigger) trigger := by
  refine ⟨_, considered_eligible s, ?_⟩
  unfold State.runPass
  simp only [offer_eq, ordersPlaced_engine, unbalanceIndex_eq]
  rfl

/-! ### Due and deferred passes (R77, R78) -/

theorem passesDeferred_iff (s : State) : s.passesDeferred = true ↔
    (s.context .first).isSome = true ∨ (s.context .second).isSome = true ∨ ∃ o ∈ s.queue.orders, 1 ≤ o.priority := by
  unfold State.passesDeferred State.inFlight
  cases s.context .first <;> cases s.context .second <;> simp

theorem passDue_passDue (s : State) (trigger : Option TriggerId) : PassDue s (s.passDue trigger) trigger := by
  unfold PassDue State.passDue
  by_cases deferred : s.passesDeferred = true
  · rw [if_pos deferred, if_pos ((passesDeferred_iff s).mp deferred)]
    cases trigger <;> rfl
  · rw [if_neg deferred, if_neg (mt (passesDeferred_iff s).mpr deferred)]
    exact runPass_passRun s trigger

end Sys2Proof.Claims

/-!
PROOFS. The balance engine's handling of an accepted window (R76), in its four stages: the trigger table (R83 to R85)
and the work of each state (R77, R78, R80).
-/

namespace Sys2Proof.Claims

open Sys2Proof.Machine

/-! ### The trigger table (R83, R84) -/

theorem comparison_holds_iff (cmp : Comparison) (threshold value : Int) :
    cmp.holds threshold value = true ↔ Beyond cmp threshold value := by
  cases cmp <;> simp [Comparison.holds, Beyond]

theorem quantity_value_eq (q : Quantity) (x : PhaseState) : q.value x = comparedValue q x := by cases q <;> rfl

theorem exists_phase_iff {p : Phase → Prop} : (∃ q, p q) ↔ p .p1 ∨ p .p2 ∨ p .p3 := by
  refine ⟨fun ⟨q, h⟩ => ?_, ?_⟩
  · cases q
    · exact .inl h
    · exact .inr (.inl h)
    · exact .inr (.inr h)
  · rintro (h | h | h)
    · exact ⟨_, h⟩
    · exact ⟨_, h⟩
    · exact ⟨_, h⟩

theorem trigger_holds_iff (t : TriggerConfig) (m : Metering) : t.holds m = true ↔ TriggerHolds t m := by
  unfold TriggerConfig.holds TriggerHolds
  split
  · next unbalance => rw [if_pos unbalance, comparison_holds_iff]
  · next phases =>
    rw [if_neg phases, exists_phase_iff]
    simp [allPhases, comparison_holds_iff, quantity_value_eq, and_assoc]

/-- The match count of an entry whose condition holds (R84). -/
theorem evaluate_of_holds {s : State} {i : TriggerId} (enabled : (s.settings.triggers.get i).enabled = true)
    (holds : TriggerHolds (s.settings.triggers.get i) s.metering) :
    s.evaluate i = (let run := s.engine.triggers.get i
      let count := min (run.matchCount + 1) 15
      let fires := decide ((s.settings.triggers.get i).persistence ≤ count) && !run.latched
      (⟨count, run.latched || fires⟩, fires)) := by
  rw [State.evaluate, evaluateTrigger, if_pos enabled, if_pos ((trigger_holds_iff _ _).mpr holds)]
  rfl

theorem evaluate_of_not_holds {s : State} {i : TriggerId} (enabled : (s.settings.triggers.get i).enabled = true)
    (fails : ¬ TriggerHolds (s.settings.triggers.get i) s.metering) : s.evaluate i = (⟨0, false⟩, false) := by
  rw [State.evaluate, evaluateTrigger, if_pos enabled, if_neg (mt (trigger_holds_iff _ _).mp fails)]

theorem evaluate_of_disabled {s : State} {i : TriggerId} (disabled : (s.settings.triggers.get i).enabled = false) :
    s.evaluate i = (s.engine.triggers.get i, false) := by
  rw [State.evaluate, evaluateTrigger, disabled]
  rfl

theorem evaluate_fires_iff (s : State) (i : TriggerId) : (s.evaluate i).2 = true ↔ Fires s i := by
  unfold Fires
  rcases enabled : (s.settings.triggers.get i).enabled with _ | _
  · simp [evaluate_of_disabled enabled, enabled]
  · by_cases holds : TriggerHolds (s.settings.triggers.get i) s.metering
    · simp [evaluate_of_holds enabled holds, enabled, holds, and_comm]
    · simp [evaluate_of_not_holds enabled holds, holds]

theorem evaluate_triggerAfter (s : State) (i : TriggerId) : TriggerAfter s i (s.evaluate i).1 := by
  refine ⟨fun disabled => ?_, fun enabled holds => ?_, fun enabled fails => ?_⟩
  · rw [evaluate_of_disabled disabled]
  · rw [← evaluate_fires_iff, evaluate_of_holds enabled holds]
    exact ⟨rfl, Bool.or_eq_true_iff⟩
  · rw [evaluate_of_not_holds enabled fails]

/-- The first entry found is the lowest of those that pass the test (R85). -/
theorem find?_lowest {α : Type} [Preorder α] {l : List α} (sorted : l.Pairwise (· < ·)) {test : α → Bool} {i : α}
    (found : l.find? test = some i) : ∀ j ∈ l, test j = true → i ≤ j := by
  obtain ⟨-, before, after, rfl, earlier⟩ := List.find?_eq_some_iff_append.mp found
  intro j member passes
  rcases List.mem_append.mp member with h | h
  · exact absurd passes (by simpa using earlier j h)
  · rcases List.mem_cons.mp h with rfl | h
    · exact le_rfl
    · exact (List.rel_of_pairwise_cons (List.pairwise_append.mp sorted).2.1 h).le

theorem firing_lowest (s : State) : LowestFiring s s.firing := by
  rcases found : s.firing with _ | i
  · intro i fires
    exact absurd ((evaluate_fires_iff s i).mpr fires) (List.find?_eq_none.mp found i (List.mem_finRange i))
  · refine ⟨(evaluate_fires_iff s i).mp (List.find?_some (p := fun i => (s.evaluate i).2) found), fun j fires => ?_⟩
    exact find?_lowest (List.pairwise_lt_finRange 8) found j (List.mem_finRange j) ((evaluate_fires_iff s j).mpr fires)

/-! ### Stages 1 to 3 (R74, R76) -/

theorem stoppedAs_ne_quiet (s : State) : stoppedAs s ≠ some .quiet := by
  unfold stoppedAs
  repeat' split
  all_goals simp

/-- An engine that its review shows in QUIET was there already or was stopped (R74). -/
theorem running_iff_of_reviewed_quiet {s : State} (quiet : (engineReviewed s).state = .quiet) :
    s.engine.state.running = true ↔ s.engine.state = .quiet := by
  refine ⟨fun running => ?_, fun state => by rw [state]; rfl⟩
  rcases stopped : stoppedAs s with _ | st
  · rwa [engineReviewed_of_not_stopped stopped, if_pos running] at quiet
  · rw [engineReviewed_of_stopped stopped, if_pos running] at quiet
    exact absurd (quiet ▸ stopped) (stoppedAs_ne_quiet s)

theorem engineReviewed_triggers (s : State) : (engineReviewed s).triggers = s.engine.triggers := by
  rcases stopped : stoppedAs s with _ | st
  · rw [engineReviewed_of_not_stopped stopped]
    split <;> rfl
  · rw [engineReviewed_of_stopped stopped]
    split <;> rfl

theorem reviewActive_eq (s : State) : s.reviewActive = s.withEngine { s.engine with
    active := s.engine.active && decide (s.setting .uStop < s.metering.unbalance) } := by
  unfold State.reviewActive
  split
  · next low => simp [Nat.not_lt.mpr low]
  · next high =>
    simp only [Nat.lt_of_not_le high, decide_true, Bool.and_true]
    rfl

/-- The state after the first three stages of a window: the stopping conditions, the active flag, the trigger table. -/
def tableEvaluated (s : State) : State :=
  { s with engine := { engineReviewed s with
      active := (engineReviewed s).active && decide (s.setting .uStop < s.metering.unbalance)
      triggers := Vector.ofFn fun i => (s.evaluate i).1 } }

theorem engineWindow_eq (s : State) :
    s.engineWindow = (tableEvaluated s).stateWork s.firing (!s.engine.state.running) := by
  have reviewed : s.reviewStopping.reviewActive = s.withEngine { engineReviewed s with
      active := (engineReviewed s).active && decide (s.setting .uStop < s.metering.unbalance) } := by
    rw [reviewStopping_eq, reviewActive_eq]
    rfl
  have evaluated : s.reviewStopping.reviewActive.evaluate = s.evaluate := by
    funext i
    rw [reviewed]
    show evaluateTrigger _ ((engineReviewed s).triggers.get i) _ = _
    rw [engineReviewed_triggers]
    rfl
  unfold State.engineWindow State.evaluateAll State.firing
  simp only [evaluated]
  rw [reviewed]
  rfl

/-! ### Stage 4 (R77, R78, R80, R85) -/

theorem lowerTrigger_eq (a b : Option TriggerId) : lowerTrigger a b = lowerOf a b := by
  cases a <;> cases b <;> simp [lowerTrigger, lowerOf, min_def]

theorem deferredTrigger_eq (cause : Option PassCause) : deferredTrigger cause = triggerOf cause := by
  rcases cause with _ | _ | _ <;> rfl

theorem startCondition_iff (s : State) : s.startCondition = true ↔ s.setting .uStart ≤ s.metering.unbalance
    ∨ s.engine.active = true ∧ s.setting .uStop < s.metering.unbalance := by
  simp [State.startCondition]

theorem watchWindow_watchWork (s : State) (fired : Option TriggerId) : WatchWork s (s.watchWindow fired) fired := by
  have due : (fired.isSome || s.engine.deferred.isSome) = true ↔ fired ≠ none ∨ s.engine.deferred ≠ none := by
    simp [Option.isSome_iff_ne_none]
  unfold WatchWork State.watchWindow
  by_cases h : fired ≠ none ∨ s.engine.deferred ≠ none
  · rw [if_pos h, if_pos (due.mpr h), lowerTrigger_eq, deferredTrigger_eq]
    exact passDue_passDue s _
  · rw [if_neg h, if_neg (mt due.mp h)]
    by_cases counts : s.engine.windowCount + 1 < s.setting .balanceInterval
    · rw [if_pos counts, if_neg (Nat.not_le.mpr counts)]
      rfl
    · rw [if_neg counts, if_pos (Nat.not_lt.mp counts)]
      by_cases start : s.startCondition = true
      · rw [if_pos start, if_pos ((startCondition_iff s).mp start)]
        exact passDue_passDue s none
      · rw [if_neg start, if_neg (mt (startCondition_iff s).mpr start)]
        rfl

theorem notePending_eq (s : State) (fired : Option TriggerId) : s.notePending fired = pendingNoted s fired := by
  rw [State.notePending, lowerTrigger_eq]
  rfl

theorem countQuiet_quietWork (s : State) (fired : Option TriggerId) :
    QuietWork s (s.notePending fired).countQuiet fired := by
  rw [notePending_eq]
  unfold QuietWork State.countQuiet
  by_cases counts : 1 < s.engine.quietCount
  · have kept : ¬ (pendingNoted s fired).engine.quietCount ≤ 1 := Nat.not_le.mpr counts
    rw [if_pos counts, if_neg kept]
    rfl
  · have ends : (pendingNoted s fired).engine.quietCount ≤ 1 := Nat.not_lt.mp counts
    rw [if_neg counts, if_pos ends]
    unfold State.enterWatch
    rcases pending : (pendingNoted s fired).engine.pendingTrigger with _ | i
    · rw [if_pos rfl]
      rfl
    · rw [if_neg (Option.some_ne_none i)]
      exact passDue_passDue _ _

/-! ### The four stages -/

section
variable {v : State} {fired : Option TriggerId} {entered : Bool}

theorem stateWork_watch (state : v.engine.state = .watch) : v.stateWork fired entered = v.watchWindow fired := by
  rw [State.stateWork, state]

theorem stateWork_waiting (state : v.engine.state = .waiting) : v.stateWork fired entered = pendingNoted v fired := by
  rw [State.stateWork, state]
  exact notePending_eq v fired

theorem stateWork_quiet_entered (state : v.engine.state = .quiet) : v.stateWork fired true = pendingNoted v fired := by
  rw [State.stateWork, state]
  exact notePending_eq v fired

theorem stateWork_quiet (state : v.engine.state = .quiet) :
    v.stateWork fired false = (v.notePending fired).countQuiet := by
  rw [State.stateWork, state]
  rfl

theorem stateWork_stopped (stopped : v.engine.state.running = false) : v.stateWork fired entered = v := by
  unfold State.stateWork
  rcases state : v.engine.state
  case off | starved | held | paused => rfl
  all_goals exact absurd stopped (by rw [state]; decide)

end

theorem engineWindow_handled (s : State) : WindowHandled s s.engineWindow := by
  refine ⟨s.firing, Vector.ofFn fun i => (s.evaluate i).1, firing_lowest s, fun i => ?_, ?_⟩
  · rw [vector_get_ofFn]
    exact evaluate_triggerAfter s i
  rw [engineWindow_eq]
  have still {st : EngineState} (h : (engineReviewed s).state = st) (stopped : st.running = false) :
      (tableEvaluated s).stateWork s.firing (!s.engine.state.running) = tableEvaluated s :=
    stateWork_stopped (h ▸ stopped)
  dsimp only
  split
  case h_1 watch =>
    rw [stateWork_watch (v := tableEvaluated s) watch]
    exact watchWindow_watchWork (tableEvaluated s) s.firing
  case h_2 waiting => exact stateWork_waiting (v := tableEvaluated s) waiting
  case h_3 quiet =>
    have found := running_iff_of_reviewed_quiet quiet
    by_cases before : s.engine.state = .quiet
    · rw [if_pos before, found.mpr before]
      exact stateWork_quiet (v := tableEvaluated s) quiet ▸ countQuiet_quietWork (tableEvaluated s) s.firing
    · rw [if_neg before, Bool.eq_false_iff.mpr (mt found.mp before)]
      exact stateWork_quiet_entered (v := tableEvaluated s) quiet
  case h_4 off => exact still off rfl
  case h_5 starved => exact still starved rfl
  case h_6 held => exact still held rfl
  case h_7 paused => exact still paused rfl

end Sys2Proof.Claims

/-!
PROOFS. An accepted window (R26): each phase after its sample (R31, R33, R35, R36), the raised conditions (R37), and the
whole event.
-/

namespace Sys2Proof.Claims

open Sys2Proof.Machine

/-! ### One phase after its sample (R31, R33) -/

/-- A phase after the stages that read its sample, before the counting. -/
def sampled (x : PhaseState) (r : PhaseSample) : PhaseState := (x.holdoverStage r).stepStage x

theorem accept_eq (x : PhaseState) (d : DeglitchInput) (r : PhaseSample) :
    x.accept d r = (sampled x r).countStage d := rfl

/-- A valid sample's clamped figures come into use, and the step is over the phase as it stood (R31, R33). -/
theorem sampled_valid (x : PhaseState) {r : PhaseSample} (valid : r.valid = true) :
    sampled x r = { x with
      holdover := .inUse, power := clampInt (-30000) 30000 r.power.toInt, voltage := min r.voltage.toNat 3000
      current := min r.current.toNat 10000
      step := if x.holdover = .unusable then 0 else (clampInt (-30000) 30000 r.power.toInt - x.power).natAbs } := by
  rw [sampled, PhaseState.holdoverStage, if_pos valid, valid, PhaseState.stepStage]
  cases x.holdover <;> rfl

/-- A phase without a valid sample keeps its figures, and its counters unless it becomes UNUSABLE (R31, R33). -/
theorem sampled_invalid (x : PhaseState) {r : PhaseSample} (invalid : r.valid = false) :
    sampled x r = { x with
      holdover := if x.holdover = .inUse then .held else .unusable
      lowCount := if x.holdover = .held then 0 else x.lowCount
      highCount := if x.holdover = .held then 0 else x.highCount
      step := 0 } := by
  rw [sampled, PhaseState.holdoverStage, invalid, PhaseState.stepStage]
  cases x.holdover <;> rfl

theorem sampled_flags (x : PhaseState) (r : PhaseSample) :
    (sampled x r).liveLow = x.liveLow ∧ (sampled x r).liveHigh = x.liveHigh := by
  rcases valid : r.valid
  · rw [sampled_invalid x valid]
    exact ⟨rfl, rfl⟩
  · rw [sampled_valid x valid]
    exact ⟨rfl, rfl⟩

/-- A phase that becomes UNUSABLE has its counters set to 0; any other sample leaves them (R31). -/
theorem sampled_counts (x : PhaseState) (r : PhaseSample) :
    if (sampled x r).holdover = .unusable ∧ x.holdover ≠ .unusable then
      (sampled x r).lowCount = 0 ∧ (sampled x r).highCount = 0
    else (sampled x r).lowCount = x.lowCount ∧ (sampled x r).highCount = x.highCount := by
  rcases valid : r.valid
  · rw [sampled_invalid x valid]
    rcases x.holdover <;> exact ⟨rfl, rfl⟩
  · rw [sampled_valid x valid]
    exact ⟨rfl, rfl⟩

/-! ### The counting of low and high windows (R35, R36) -/

theorem deglitch_eq (windows count : Nat) (flag towards : Bool) :
    deglitch windows count flag towards = counted windows count flag towards := by
  cases towards <;> rfl

/-- Counting leaves the holdover state and the figures. -/
theorem countStage_figures (x : PhaseState) (d : DeglitchInput) :
    (x.countStage d).holdover = x.holdover ∧ (x.countStage d).power = x.power ∧ (x.countStage d).voltage = x.voltage
      ∧ (x.countStage d).current = x.current ∧ (x.countStage d).step = x.step := by
  unfold PhaseState.countStage
  split <;> exact ⟨rfl, rfl, rfl, rfl, rfl⟩

theorem countStage_unusable {x : PhaseState} (unusable : x.holdover = .unusable) (d : DeglitchInput) :
    x.countStage d = x := if_pos unusable

theorem countStage_counts {x : PhaseState} (usable : x.holdover ≠ .unusable) (d : DeglitchInput) :
    ((x.countStage d).lowCount, (x.countStage d).liveLow) = counted d.windows x.lowCount x.liveLow
        (if x.liveLow then decide (d.low + d.hysteresis ≤ x.voltage) else decide (x.voltage < d.low))
      ∧ ((x.countStage d).highCount, (x.countStage d).liveHigh) = counted d.windows x.highCount x.liveHigh
        (if x.liveHigh then decide (x.voltage + d.hysteresis ≤ d.high) else decide (d.high < x.voltage)) := by
  rw [PhaseState.countStage, if_neg usable, ← deglitch_eq, ← deglitch_eq]
  exact ⟨rfl, rfl⟩

/-- A phase after an accepted window follows its sample (R26, R31, R33, R35, R36). -/
theorem accept_phaseAfter (s : State) (x : PhaseState) (r : PhaseSample) :
    phaseAfter s x (x.accept s.deglitchInput r) r := by
  obtain ⟨holdover, power, voltage, current, step⟩ := countStage_figures (sampled x r) s.deglitchInput
  obtain ⟨liveLow, liveHigh⟩ := sampled_flags x r
  have counts := sampled_counts x r
  rw [accept_eq, phaseAfter, holdover, power, voltage, current, step]
  refine ⟨?_, ?_⟩
  · rcases valid : r.valid
    · rw [sampled_invalid x valid]
      exact ⟨rfl, rfl, rfl, rfl, rfl⟩
    · rw [sampled_valid x valid]
      exact ⟨rfl, rfl, rfl, rfl, rfl⟩
  · by_cases unusable : (sampled x r).holdover = .unusable
    · rw [if_pos unusable, countStage_unusable unusable]
      refine ⟨liveLow, liveHigh, fun usable => ?_, fun still => ?_⟩
      · rwa [if_pos ⟨unusable, usable⟩] at counts
      · rwa [if_neg fun h => h.2 still] at counts
    · rw [if_neg fun h => unusable h.1] at counts
      rw [if_neg unusable, ← counts.1, ← counts.2, ← liveLow, ← liveHigh]
      exact countStage_counts unusable s.deglitchInput

/-! ### The metering input and the raised conditions (R26, R37) -/

/-- The metering input after an accepted window (R26 to R28, R30, R38). -/
theorem meteringAfter_follows (s : State) (r : WindowRecord) :
    let m := (assembling s none).meteringAfter r
    m.status = .current ∧ m.lost = false ∧ m.staleTimer = some (3 * s.setting .windowLength)
      ∧ m.lastSequence = r.sequence ∧ m.rx = none
      ∧ m.gapCount = (if s.metering.status = .current ∧ r.sequence ≠ s.metering.lastSequence + 1 then
          min (s.metering.gapCount + 1) 255 else s.metering.gapCount)
      ∧ (∀ q, phaseAfter s (s.metering.phases.get q) (m.phases.get q) (r.phases.get q))
      ∧ m.unbalance = indexOf ⟨m.phases.p1.power, m.phases.p2.power, m.phases.p3.power⟩ (s.setting .phaseRating) := by
  have gaps : s.metering.gaps r = true ↔ s.metering.status = .current ∧ r.sequence ≠ s.metering.lastSequence + 1 := by
    simp [Metering.gaps]
  refine ⟨rfl, rfl, rfl, rfl, rfl, if_congr gaps rfl rfl, fun q => ?_, rfl⟩
  show phaseAfter s _ ((s.metering.phases.zipWith (PhaseState.accept s.deglitchInput) r.phases).get q) _
  rw [PerPhase.get_zipWith]
  exact accept_phaseAfter s _ _

theorem perPhase_any_iff {α : Type} (v : PerPhase α) (test : α → Bool) :
    v.any test = true ↔ ∃ q, test (v.get q) = true := by
  rw [exists_phase_iff]
  simp [PerPhase.any, PerPhase.get, or_assoc]

theorem raisePhaseAlarms_has (s : State) (p : Port) (a : Alarm) :
    (s.raisePhaseAlarms.alarms.get p).has a = true ↔ (s.alarms.get p).has a = true
      ∨ a = .phaseLow ∧ (∃ q, (s.metering.phases.get q).liveLow = true)
      ∨ a = .phaseHigh ∧ ∃ q, (s.metering.phases.get q).liveHigh = true := by
  rw [State.raisePhaseAlarms, raiseIf_has, raiseIf_has, perPhase_any_iff, perPhase_any_iff, or_assoc]

/-- The state in which the engine finds an accepted window. -/
def windowTaken (s : State) (r : WindowRecord) : State :=
  State.raisePhaseAlarms ((assembling s none).withMetering ((assembling s none).meteringAfter r))

theorem windowTaken_eq (s : State) (r : WindowRecord) : windowTaken s r =
    { s with metering := (windowTaken s r).metering, alarms := (windowTaken s r).alarms } := by
  refine State.eq_of_fields ?_ ?_ ?_ ?_ ?_ ?_ ?_ ?_ rfl ?_ ?_ ?_ ?_ ?_ rfl ?_ ?_ ?_
  all_goals simp [windowTaken, assembling]

theorem windowTaken_metering (s : State) (r : WindowRecord) :
    (windowTaken s r).metering = (assembling s none).meteringAfter r := by
  simp [windowTaken]

theorem windowTaken_conns (s : State) (r : WindowRecord) : (windowTaken s r).conns = s.conns := by
  simp [windowTaken, assembling]

/-! ### What the engine leaves of the connection records (R66) -/

/-- The connection records without their motions. -/
def stilled (s : State) : ConnId → Connection := fun c => { s.conn c with motion := .idle }

theorem stilled_congr {s t : State} (h : t.conns = s.conns) : stilled t = stilled s := by
  funext c
  rw [stilled, stilled, State.conn_congr h]

theorem enqueue_stilled (s : State) (c : ConnId) (target : Phase) (src : Source) (priority life : Nat)
    (trigger : Option TriggerId) (gain : Option Nat) :
    stilled (s.enqueue c target src priority life trigger gain) = stilled s := by
  funext d
  unfold stilled State.enqueue
  dsimp only
  rw [State.setMotion_conn]
  split
  · next h => rw [h]; rfl
  · rfl

theorem offer_stilled (trigger : Option TriggerId) (plan : List PlanEntry) (s : State) :
    stilled (s.offer trigger plan).1 = stilled s := by
  induction plan generalizing s with
  | nil => rfl
  | cons e plan ih =>
    unfold State.offer
    split
    · exact (ih _).trans (enqueue_stilled s _ _ _ _ _ _ _)
    · rfl

theorem passDue_stilled (s : State) (trigger : Option TriggerId) : stilled (s.passDue trigger) = stilled s := by
  unfold State.passDue
  split
  · rfl
  · exact offer_stilled trigger _ s

theorem watchWindow_stilled (s : State) (fired : Option TriggerId) : stilled (s.watchWindow fired) = stilled s := by
  unfold State.watchWindow
  repeat' split
  · exact passDue_stilled s _
  · exact passDue_stilled s none
  · rfl
  · rfl

theorem countQuiet_stilled (s : State) : stilled s.countQuiet = stilled s := by
  unfold State.countQuiet State.enterWatch
  repeat' split
  · exact passDue_stilled _ _
  · rfl
  · rfl

theorem stateWork_stilled (s : State) (fired : Option TriggerId) (entered : Bool) :
    stilled (s.stateWork fired entered) = stilled s := by
  unfold State.stateWork
  split
  · exact watchWindow_stilled s fired
  · rfl
  · split
    · rfl
    · exact countQuiet_stilled (s.notePending fired)
  all_goals rfl

theorem engineWindow_stilled (s : State) : stilled s.engineWindow = stilled s := by
  rw [engineWindow_eq]
  exact stateWork_stilled _ _ _

theorem finish_stilled (s : State) : stilled s.finish = stilled s := by
  obtain ⟨-, -, -, -, conns, -⟩ := (finish_effects s).1
  funext c
  unfold stilled
  rcases conns c with h | ⟨h, -⟩ <;> rw [h]

/-! ### The event -/

/-- Settles O36: the window is taken phase by phase, its conditions are raised, the engine handles it, and the last
parts follow. -/
theorem windowUpdatesTheMeteringInput : Obligations.WindowUpdatesTheMeteringInput := by
  intro s r on
  have metering : (windowTaken s r).engineWindow.finish.metering = (assembling s none).meteringAfter r := by
    simp [windowTaken_metering]
  have alarms : (windowTaken s r).engineWindow.finish.alarms = (windowTaken s r).alarms := by simp
  refine ⟨(windowTaken s r).engineWindow.finish, exec_acceptedWindow on r, ?_, ?_, ?_, ?_, ?_, ?_⟩
  · rw [metering]
    exact meteringAfter_follows s r
  · rw [alarms, metering]
    exact raisePhaseAlarms_has _
  · exact (finish_effects _).2
  · refine ⟨_, ?_, rfl⟩
    rw [metering, alarms, ← windowTaken_metering, ← windowTaken_eq]
    exact engineWindow_handled _
  · intro c
    have same : stilled (windowTaken s r).engineWindow.finish = stilled s := by
      rw [finish_stilled, engineWindow_stilled, stilled_congr (windowTaken_conns s r)]
    exact congrArg (fun x : Connection => { x with motion := (s.conn c).motion }) (congrFun same c)
  · apply State.eq_of_fields
    all_goals simp [windowTaken, assembling]

end Sys2Proof.Claims

/-!
PROOFS. The balancing computation (R49 to R62): the order in which candidates go, the choice of a step as the first of
its contenders in that order, and what the repeated search keeps.
-/

namespace Sys2Proof.Claims

open Sys2Proof.Machine

/-! ### One candidate (R49 to R58) -/

/-- The powers a candidate leaves, when its target is not its source (R50). -/
theorem after_eq {m : Candidate} (moves : m.target ≠ m.elig.source) (powers : PerPhase Int) :
    m.after powers = (powers.set m.elig.source (powers.get m.elig.source - m.elig.load)).set m.target
      (powers.get m.target + m.elig.load) := by
  rw [Candidate.after, PerPhase.get_set, if_neg moves]

/-- A candidate takes its load from one phase to the other: the three powers keep their sum. -/
theorem after_sum (m : Candidate) (powers : PerPhase Int) :
    (m.after powers).p1 + (m.after powers).p2 + (m.after powers).p3 = powers.p1 + powers.p2 + powers.p3 := by
  have set_sum : ∀ (v : PerPhase Int) (q : Phase) (x : Int),
      (v.set q x).p1 + (v.set q x).p2 + (v.set q x).p3 = v.p1 + v.p2 + v.p3 + (x - v.get q) := by
    intro v q x
    cases q <;> simp only [PerPhase.set, PerPhase.get] <;> omega
  rw [Candidate.after, set_sum, set_sum]
  omega

/-- The admissibility conditions, one by one (R53 to R58). -/
theorem admissible_iff (m : Candidate) (i : PassInput) (powers : PerPhase Int) (chosen : List ConnId) :
    m.admissible i powers chosen = true ↔
      (i.gainFloor : Int) ≤ m.gain powers ∧ i.minimumLoad ≤ m.elig.load.natAbs
      ∧ (0 < m.elig.load → powers.get m.target + m.elig.load ≤ i.rating ∧ i.liveLow.get m.target = false)
      ∧ (m.elig.load < 0 → i.liveHigh.get m.target = false) ∧ m.elig.conn ∉ chosen := by
  simp [Candidate.admissible, and_assoc, or_iff_not_imp_left]

/-! ### The order of candidates (R59, R60) -/

/-- What decides between two candidates: the gain, of which the larger goes first, then the transfers today, the
connection number and the target phase, of which the lower does. -/
def rank (powers : PerPhase Int) (m : Candidate) : ℤ ×ₗ ℕ ×ₗ ConnId ×ₗ ℕ :=
  toLex (-m.gain powers, toLex (m.elig.today, toLex (m.elig.conn, phaseNumber m.target)))

theorem candidate_before_iff (m n : Candidate) (powers : PerPhase Int) :
    m.before n powers = true ↔ rank powers m < rank powers n := by
  simp only [rank, Prod.Lex.toLex_lt_toLex, neg_lt_neg_iff, neg_inj]
  unfold Candidate.before
  split
  · next gains => simp [gains]
  · next gains =>
    split
    · next todays => simp [not_not.mp gains, todays]
    · next todays =>
      split
      · next conns => simp [not_not.mp gains, not_not.mp todays, conns]
      · next conns => simp [not_not.mp gains, not_not.mp todays, not_not.mp conns]

theorem rank_le_iff (m n : Candidate) (powers : PerPhase Int) : rank powers m ≤ rank powers n ↔
    n.gain powers < m.gain powers
      ∨ n.gain powers = m.gain powers ∧ (m.elig.today < n.elig.today
        ∨ m.elig.today = n.elig.today ∧ (m.elig.conn < n.elig.conn
          ∨ m.elig.conn = n.elig.conn ∧ phaseNumber m.target ≤ phaseNumber n.target)) := by
  simp only [rank, Prod.Lex.toLex_le_toLex, neg_lt_neg_iff, neg_inj, eq_comm]

/-! ### The choice of a step (R59, R60) -/

/-- A candidate that a step may choose: an eligible connection's move to an allowed phase other than its own, and
admissible. -/
def Contender (i : PassInput) (es : List Machine.Eligible) (powers : PerPhase Int) (chosen : List ConnId)
    (m : Candidate) : Prop :=
  m.elig ∈ es ∧ m.elig.allowed.get m.target = true ∧ m.target ≠ m.elig.source ∧ m.admissible i powers chosen = true

theorem mem_candidates (es : List Machine.Eligible) (m : Candidate) :
    m ∈ candidates es ↔ m.elig ∈ es ∧ m.elig.allowed.get m.target = true ∧ m.target ≠ m.elig.source := by
  have phases : ∀ q : Phase, q ∈ allPhases := fun q => by cases q <;> decide
  obtain ⟨e, q⟩ := m
  simp [candidates, phases]

/-- The candidates among which a step chooses, in the order of the list. -/
def contenders (i : PassInput) (es : List Machine.Eligible) (powers : PerPhase Int) (chosen : List ConnId) :
    List Candidate :=
  (candidates es).filter fun m => m.admissible i powers chosen

theorem mem_contenders {i : PassInput} {es : List Machine.Eligible} {powers : PerPhase Int} {chosen : List ConnId}
    {m : Candidate} : m ∈ contenders i es powers chosen ↔ Contender i es powers chosen m := by
  rw [contenders, List.mem_filter, mem_candidates, Contender, and_assoc, and_assoc]

/-- The step's choice is the contender of the least rank. -/
theorem choose_eq_argmin (i : PassInput) (es : List Machine.Eligible) (powers : PerPhase Int) (chosen : List ConnId) :
    choose i es powers chosen = (contenders i es powers chosen).argmin (rank powers) := by
  have fold : ∀ (rest : List Candidate) (best : Candidate),
      some (rest.foldl (fun best n => if n.before best powers then n else best) best)
        = rest.foldl (List.argAux fun b c => rank powers b < rank powers c) (some best) := by
    intro rest
    induction rest with
    | nil => exact fun _ => rfl
    | cons n rest ih =>
      intro best
      rw [List.foldl_cons, List.foldl_cons, ih]
      simp only [List.argAux, candidate_before_iff, apply_ite some]
  unfold choose
  rw [← contenders]
  rcases contenders i es powers chosen with _ | ⟨m, rest⟩
  · rfl
  · exact fold rest m

section
variable {i : PassInput} {es : List Machine.Eligible} {powers : PerPhase Int} {chosen : List ConnId}

theorem choose_eq_none : choose i es powers chosen = none ↔ ∀ m, ¬ Contender i es powers chosen m := by
  simp only [choose_eq_argmin, List.argmin_eq_none, List.eq_nil_iff_forall_not_mem, mem_contenders]

theorem choose_contender {m : Candidate} (choice : choose i es powers chosen = some m) :
    Contender i es powers chosen m :=
  mem_contenders.mp (List.argmin_mem (choose_eq_argmin .. ▸ choice))

theorem choose_first {m n : Candidate} (choice : choose i es powers chosen = some m)
    (other : Contender i es powers chosen n) : rank powers m ≤ rank powers n :=
  List.le_of_mem_argmin (mem_contenders.mpr other) (choose_eq_argmin .. ▸ choice)

end

/-! ### The search (R61, R62) -/

section
variable {i : PassInput} {es : List Machine.Eligible}

theorem search_of_none {depth : Nat} {powers : PerPhase Int} {chosen : List ConnId}
    (ends : choose i es powers chosen = none) : search i es (depth + 1) powers chosen = ⟨[], powers⟩ := by
  rw [search, ends]

theorem search_of_some {depth : Nat} {powers : PerPhase Int} {chosen : List ConnId} {m : Candidate}
    (choice : choose i es powers chosen = some m) : search i es (depth + 1) powers chosen =
      (let rest := search i es depth (m.after powers) (m.elig.conn :: chosen)
       ⟨⟨m.elig.conn, m.elig.source, m.target, m.gain powers⟩ :: rest.plan, rest.powers⟩) := by
  rw [search, choice]

/-- What holds of an empty plan and survives a step's choice put before the plan of the next steps holds of every
search. -/
theorem search_induction {Q : Nat → PerPhase Int → List ConnId → SearchResult → Prop}
    (ends : ∀ depth powers chosen, Q depth powers chosen ⟨[], powers⟩)
    (moves : ∀ depth powers chosen m r, Contender i es powers chosen m →
      Q depth (m.after powers) (m.elig.conn :: chosen) r →
      Q (depth + 1) powers chosen ⟨⟨m.elig.conn, m.elig.source, m.target, m.gain powers⟩ :: r.plan, r.powers⟩)
    (depth : Nat) (powers : PerPhase Int) (chosen : List ConnId) :
    Q depth powers chosen (search i es depth powers chosen) := by
  induction depth generalizing powers chosen with
  | zero => exact ends 0 powers chosen
  | succ depth ih =>
    rcases choice : choose i es powers chosen with _ | m
    · rw [search_of_none choice]
      exact ends (depth + 1) powers chosen
    · rw [search_of_some choice]
      exact moves depth powers chosen m _ (choose_contender choice) (ih _ _)

theorem search_length_le (depth : Nat) (powers : PerPhase Int) (chosen : List ConnId) :
    (search i es depth powers chosen).plan.length ≤ depth :=
  search_induction (Q := fun depth _ _ r => r.plan.length ≤ depth) (fun _ _ _ => Nat.zero_le _)
    (fun _ _ _ _ _ _ ih => Nat.succ_le_succ ih) depth powers chosen

/-- A move of a plan keeps its limits: an eligible connection's, not chosen before, from its recorded phase to an
allowed other phase, and within the gain floor and the minimum load. -/
def MoveAllowed (i : PassInput) (es : List Machine.Eligible) (chosen : List ConnId) (x : PlanEntry) : Prop :=
  x.conn ∉ chosen ∧ (i.gainFloor : Int) ≤ x.gain ∧ x.source ≠ x.target
    ∧ ∃ e ∈ es, e.conn = x.conn ∧ e.source = x.source ∧ e.allowed.get x.target = true
      ∧ i.minimumLoad ≤ e.load.natAbs

theorem moveAllowed_of_contender {powers : PerPhase Int} {chosen : List ConnId} {m : Candidate}
    (may : Contender i es powers chosen m) :
    MoveAllowed i es chosen ⟨m.elig.conn, m.elig.source, m.target, m.gain powers⟩ := by
  obtain ⟨eligible, allowed, moves, admissible⟩ := may
  obtain ⟨floor, load, -, -, fresh⟩ := (admissible_iff m i powers chosen).mp admissible
  exact ⟨fresh, floor, moves.symm, m.elig, eligible, rfl, rfl, allowed, load⟩

/-- A plan moves a connection once, since a later step's connection is not among those chosen before it (R58), and
every move keeps its limits. -/
theorem search_plan_allowed (depth : Nat) (powers : PerPhase Int) (chosen : List ConnId) :
    let plan := (search i es depth powers chosen).plan
    (plan.map (·.conn)).Nodup ∧ ∀ x ∈ plan, MoveAllowed i es chosen x := by
  refine search_induction (Q := fun _ _ chosen r =>
      (r.plan.map (·.conn)).Nodup ∧ ∀ x ∈ r.plan, MoveAllowed i es chosen x)
    (fun _ _ _ => ⟨List.nodup_nil, fun _ none => absurd none List.not_mem_nil⟩) ?_ depth powers chosen
  rintro _ powers chosen m r may ⟨once, allowed⟩
  refine ⟨List.nodup_cons.mpr ⟨fun again => ?_, once⟩, fun x member => ?_⟩
  · obtain ⟨x, later, same⟩ := List.mem_map.mp again
    obtain ⟨fresh, -⟩ := allowed x later
    exact fresh (same ▸ List.mem_cons_self)
  · rcases List.mem_cons.mp member with rfl | later
    · exact moveAllowed_of_contender may
    · obtain ⟨fresh, limits⟩ := allowed x later
      exact ⟨fun old => fresh (List.mem_cons_of_mem _ old), limits⟩

/-- The final spread is the first less the gains: each step's gain is what it takes from the spread. -/
theorem search_spread (depth : Nat) (powers : PerPhase Int) (chosen : List ConnId) :
    spread (search i es depth powers chosen).powers
      = spread powers - ((search i es depth powers chosen).plan.map (·.gain)).sum := by
  refine search_induction (Q := fun _ powers _ r => spread r.powers = spread powers - (r.plan.map (·.gain)).sum)
    (fun _ _ _ => by simp) (fun _ powers chosen m r _ ih => ?_) depth powers chosen
  simp only [ih, List.map_cons, List.sum_cons, Candidate.gain]
  omega

theorem search_sum (depth : Nat) (powers : PerPhase Int) (chosen : List ConnId) :
    let r := search i es depth powers chosen
    r.powers.p1 + r.powers.p2 + r.powers.p3 = powers.p1 + powers.p2 + powers.p3 :=
  search_induction (Q := fun _ powers _ r => r.powers.p1 + r.powers.p2 + r.powers.p3 = powers.p1 + powers.p2 + powers.p3)
    (fun _ _ _ => rfl) (fun _ powers _ m _ _ ih => ih.trans (after_sum m powers)) depth powers chosen

end

/-- Settles O41: the choice is the contender of the least rank, and the search repeats it. -/
theorem planKeepsItsLimits : Obligations.PlanKeepsItsLimits := by
  refine ⟨eligible_eq_some, ?_, ?_, ?_, ?_⟩
  · intro i powers chosen m moves load after
    have left : m.after powers = after := after_eq moves powers
    have gain : m.gain powers = spread powers - spread after := by rw [Candidate.gain, left]
    exact ⟨left, gain, gain ▸ admissible_iff m i powers chosen⟩
  · intro i es powers chosen contender
    exact ⟨choose_eq_none, fun m choice => ⟨choose_contender choice, fun n other =>
      (rank_le_iff m n powers).mp (choose_first choice other)⟩⟩
  · intro i es depth powers chosen
    exact ⟨rfl, search_of_none, fun m choice => search_of_some choice⟩
  · intro i es depth powers chosen r
    obtain ⟨once, allowed⟩ := search_plan_allowed (i := i) (es := es) depth powers chosen
    exact ⟨search_length_le depth powers chosen, once, allowed, search_spread depth powers chosen,
      search_sum depth powers chosen⟩

end Sys2Proof.Claims

/-!
PROOFS. A step and the completion of every command (R45), the end of the quiet count (R80), and the request that shows
the part as it stands (R173, R181).
-/

namespace Sys2Proof.Claims

open Sys2Proof.Machine

/-! ### The step -/

/-- Every meaning answers a next state: while supply is applied its own, without supply the state as it stood. -/
theorem exec_completes (c : Instr) (s : State) : Completes c s := by
  have stays : ∀ t : State, ∃ u, s.whilePowered t = .next u := fun _ => ⟨_, rfl⟩
  cases c with
  | busFrameDiscarded frame =>
    show ∃ t, execBusFrameDiscarded frame s = .next t
    unfold execBusFrameDiscarded
    split
    · exact ⟨s, rfl⟩
    · exact stays _
  | lapse =>
    show ∃ t, execLapse s = .next t
    unfold execLapse
    split
    · exact ⟨s, rfl⟩
    · exact stays _
  | powerOn => exact ⟨s.powerOn, rfl⟩
  | supplyLost => exact ⟨_, rfl⟩
  | _ => exact stays _

/-- Settles O1: the step is the meaning of the front command, and every meaning completes. -/
theorem stepTakesTheFrontCommand : Obligations.StepTakesTheFrontCommand := by
  refine ⟨fun c rest s front => ?_, fun s empty => ?_, exec_completes⟩
  · rw [step, front]
  · rw [step, empty]

/-! ### The quiet count (R80) -/

/-- Settles O38: the expiry is the engine's entry to WATCH, with the pending trigger's pass due there. -/
theorem quietEndsInWatch : Obligations.QuietEndsInWatch := by
  intro s on watching
  have expiry : exec .quietCountExpiry s = .next (if s.engine.state = .quiet then s.enterWatch.finish else s) :=
    whilePowered_on on _
  rw [expiry]
  refine ⟨fun other => by rw [if_neg other], fun quiet => ⟨s.enterWatch.finish, by rw [if_pos quiet], ?_⟩⟩
  unfold State.enterWatch
  rcases s.engine.pendingTrigger with _ | i
  · rfl
  · exact ⟨watching.passDue (some i), passDue_passDue watching (some i), rfl⟩

/-! ### READ_STATUS (R86, R152, R181) -/

theorem passReport_bytes_eq (r : PassReport) : r.bytes = passReportOf r := by
  simp only [PassReport.bytes, passReportOf, fourBytes_eq, triggerCode_eq, twoOf_eq]
  cases r.ending <;> rfl

theorem contextBytes_eq (s : State) (k : CtxId) (x : Context) : s.contextBytes k x = contextOf s k x := by
  have holder : flagByte (s.transfers.fireSlot == some k) = if s.transfers.fireSlot = some k then 1 else 0 := by
    simp [flagByte]
  simp only [State.contextBytes, contextOf, phaseCode_eq, sourceCode_eq, flagCode_eq, holder]
  cases x.state <;> rfl

theorem deferredBytes_eq (d : Option PassCause) : deferredBytes d =
    match d with | none => [0, 0xFF] | some .cadence => [1, 0xFF] | some (.triggered i) => [2, byteOf i.val] := by
  rcases d with _ | _ | i <;> rfl

/-- The last pass report, or 18 zero bytes in its place (R176). -/
theorem optionalRecord_passReport (r : Option PassReport) : optionalRecord 17 (r.map (·.bytes)) =
    match r with | none => List.replicate 18 0 | some r => 1 :: passReportOf r := by
  rcases r with _ | r
  · rfl
  · exact congrArg _ (passReport_bytes_eq r)

/-- A context in flight, or ten zero bytes in its place (R176). -/
theorem optionalRecord_context (s : State) (k : CtxId) (r : Option Context) :
    optionalRecord 9 (r.map (s.contextBytes k)) =
      match r with | none => List.replicate 10 0 | some x => 1 :: contextOf s k x := by
  rcases r with _ | x
  · rfl
  · exact congrArg _ (contextBytes_eq s k x)

theorem balancerOrderRemains_eq (s : State) :
    s.balancerOrderRemains = (allOrders s).any fun o => o.source == .balancer := by
  simp [State.balancerOrderRemains, allOrders, Function.comp_def]

/-- The live levels are the conditions of bits 1 to 5, each present while its cause is live (R162, R176). -/
theorem liveLevels_byte (s : State) : s.liveLevels.byte = liveByte s := by
  have bits : ∀ mismatch fault lost low high : Bool,
      AlarmSet.byte ⟨false, mismatch, fault, lost, low, high, false, false⟩ =
        byteOf ((if mismatch then 2 else 0) + (if fault then 4 else 0) + (if lost then 8 else 0)
          + (if low then 16 else 0) + (if high then 32 else 0)) := by decide
  simp only [State.liveLevels, bits, liveByte, State.transferFaultLive, Bool.and_assoc]
  rfl

/-- The frame that brings a request leaves the counters of every port, and so the status, as they stand. -/
theorem readStatus_taken (s : State) (p : Port) :
    (serveReadStatus p (taken s p)).data = (serveReadStatus p s).data := by
  have counters : (taken s p).counterBytes = s.counterBytes := by cases p <;> rfl
  rw [serveReadStatus, counters]
  rfl

/-- An optional record of a known width takes one byte more (R176). -/
theorem optionalRecord_length {α : Type} {bytes : α → List Byte} {width : Nat} (fits : ∀ x, (bytes x).length = width)
    (r : Option α) : (optionalRecord width (r.map bytes)).length = width + 1 := by
  rcases r with _ | x <;> simp [optionalRecord, fits]

theorem serveReadStatus_length (p : Port) (s : State) : (serveReadStatus p s).data.length = 70 := by
  have deferred : (deferredBytes s.engine.deferred).length = 2 := by rcases s.engine.deferred with _ | _ | i <;> rfl
  have report : ∀ r : PassReport, r.bytes.length = 17 := fun _ => rfl
  have context : ∀ k x, (s.contextBytes k x).length = 9 := fun _ _ => rfl
  simp only [serveReadStatus, State.engineBytes, List.length_append, deferred, optionalRecord_length report,
    optionalRecord_length (context _)]
  rfl

theorem exec_readStatus {s : State} {p : Port} (ready : Ready s p) : exec (.readStatus p []) s =
    .next (answered (taken s p) p 0x82 0x00 (serveReadStatus p s).data) := by
  rw [exec_readStatus_ready p [] s ready.1 ready.2 (by cases p <;> rfl) rfl, serve_readStatus, ← readStatus_taken]
  rfl

/-- Settles O10: the response is the part's fields in the order of R181. -/
theorem statusShowsTheWholePart : Obligations.StatusShowsTheWholePart := by
  intro s p ready data
  have shown : (serveReadStatus p s).data = data := by
    simp only [serveReadStatus, State.engineBytes, State.counterBytes, deferredBytes_eq, optionalRecord_passReport,
      optionalRecord_context, balancerOrderRemains_eq, liveLevels_byte, List.append_assoc, data, fourBytes_eq,
      engineCode_eq, flagCode_eq, triggerCode_eq, holdCode_eq, alarmsCode_eq, twoOf_eq]
    rfl
  rw [exec_readStatus ready, ← shown]
  exact ⟨rfl, serveReadStatus_length p s⟩

end Sys2Proof.Claims

/-!
PROOFS. What a hold or a restart deferral does to the contexts (R105, R144, R145, R147, R149): which of them it ends,
and what becomes of the orders they carried.
-/

namespace Sys2Proof.Claims

open Sys2Proof.Machine

/-! ### The end of a transfer (R144, R145) -/

theorem releaseContext_eq (s : State) (k : CtxId) : s.releaseContext k = { s with transfers :=
    { s.transfers.put k none with
      fireSlot := if s.transfers.fireSlot = some k then none else s.transfers.fireSlot } } := by
  cases k <;> rfl

/-- A transfer's end is effects 1 to 5 of R144, whatever its outcome. -/
theorem endTransfer_eq_ended (s : State) (k : CtxId) (x : Context) (e : Ending) (disarm : Bool) :
    s.endTransfer k x e disarm = ended s k x
      ((s.conn x.order.conn).afterEnding x.order.target (s.setting .settleInterval) e) e.outcome disarm := by
  have alarm : (e == .faultOpen) = true ↔ e.outcome = .faultOpen := by cases e <;> simp [Ending.outcome]
  unfold State.endTransfer ended
  dsimp only
  rw [orderEnded_eq_engineTold, resetQuietCount_eq, releaseContext_eq]
  refine congrArg (engineTold · x.order.source) ?_
  by_cases fault : e.outcome = .faultOpen
  · rw [alarm.mpr fault, fault]
    cases disarm <;> rfl
  · rw [Bool.eq_false_iff.mpr (mt alarm.mp fault), if_neg fault]
    cases disarm <;> rfl

/-! ### The return of an order (R105) -/

/-- An order returns before the first that was admitted no earlier. -/
theorem insertByAdmission_eq (o : Order) (l : List Order) : insertByAdmission o l =
    l.takeWhile (fun q => decide (q.admissionNumber < o.admissionNumber))
      ++ o :: l.dropWhile (fun q => decide (q.admissionNumber < o.admissionNumber)) := by
  induction l with
  | nil => rfl
  | cons q l ih =>
    by_cases earlier : q.admissionNumber < o.admissionNumber
    · simp [insertByAdmission, earlier, ih]
    · simp [insertByAdmission, earlier]

theorem removeBalancer_of_master {s : State} {c : ConnId}
    (master : ∀ o, s.queuedOrder c = some o → o.source ≠ .balancer) (e : LogOutcome) : s.removeBalancer c e = s := by
  unfold State.removeBalancer
  split
  · rfl
  · next o queued => exact if_neg (master o queued)

/-- A connection whose queued order is a master's loses no order to its presence or its pins. -/
theorem meetReturn_of_master {s : State} {c : ConnId}
    (master : ∀ o, s.queuedOrder c = some o → o.source ≠ .balancer) : s.meetReturn c = s := by
  simp only [State.meetReturn, removeBalancer_of_master master, ite_self]

/-- A master order, the only one for its connection, returns to its place. -/
theorem returnOrder_eq_returned {s : State} {x : Context} (k : CtxId) (master : x.order.source ≠ .balancer)
    (alone : x.order.conn ∉ queuedConns s) :
    (s.returnOrder k x).raiseRelease x.order.conn x.dispatchNumber = returned s k x (s.conn x.order.conn) := by
  unfold State.returnOrder
  dsimp only
  rw [meetReturn_of_master fun o queued => ?_, insertByAdmission_eq, releaseContext_eq]
  · rfl
  · obtain ⟨member, same⟩ := queuedOrder_some queued
    have member : o ∈ insertByAdmission x.order s.queue.orders := by simpa using member
    rcases List.mem_cons.mp ((insertByAdmission_perm _ _).mem_iff.mp member) with rfl | other
    · exact master
    · exact absurd (same ▸ mem_queuedConns other) alone

/-! ### One context is reached (R147, R149) -/

theorem reachable_iff (s : State) (x : Context) :
    s.reachable x = true ↔ ¬ (x.state = .fired ∨ s.fireOutstanding x = true) := by
  simp [State.reachable]

/-- A hold or a restart deferral reaches a context as R147 says, when no order for its connection is queued. -/
theorem reachContext_eq_disarmed {s : State} {k : CtxId}
    (alone : ∀ x, s.context k = some x → x.order.conn ∉ queuedConns s) : s.reachContext k = disarmed s k := by
  rcases flight : s.context k with _ | x
  · simp only [State.reachContext, disarmed, flight]
  · simp only [State.reachContext, disarmed, flight]
    by_cases stays : x.state = .fired ∨ s.fireOutstanding x = true
    · rw [if_neg (fun reached => (reachable_iff s x).mp reached stays), if_pos stays]
    · rw [if_pos ((reachable_iff s x).mpr stays), if_neg stays]
      unfold State.disarmContext
      split
      · rw [endTransfer_eq_ended]
        rfl
      · next master => exact returnOrder_eq_returned k master (alone x flight)

theorem ended_transfers_queue (s : State) (k : CtxId) (x : Context) (y : Connection) (e : LogOutcome) (disarm : Bool) :
    (ended s k x y e disarm).transfers = (s.releaseContext k).transfers ∧ (ended s k x y e disarm).queue = s.queue := by
  unfold ended
  rw [engineTold_frame, releaseContext_eq]
  exact ⟨rfl, rfl⟩

/-! ### The orders after one context is reached (R89, R105) -/

theorem OneOrderInAll.alone {s : State} (one : OneOrderInAll s) {k : CtxId} {x : Context}
    (flight : s.context k = some x) : x.order.conn ∉ queuedConns s := by
  unfold OneOrderInAll at one
  rw [allOrders_conns] at one
  have carried : x.order.conn ∈ s.inFlight.map (·.2.order.conn) :=
    List.mem_map_of_mem (f := fun e : CtxId × Context => e.2.order.conn) ((inFlight_mem s k x).mpr flight)
  exact fun queued => (List.nodup_append.mp one).2.2 _ queued _ carried rfl

theorem OneOrderInAll.apart {s : State} (one : OneOrderInAll s) {j k : CtxId} {x y : Context} (other : j ≠ k)
    (hx : s.context j = some x) (hy : s.context k = some y) : x.order.conn ≠ y.order.conn := by
  unfold OneOrderInAll at one
  rw [allOrders_conns] at one
  refine fun same => other ((distinct_iff s.context fun x : Context => x.order.conn).mp ?_ j k x y hx hy same)
  intro x y hx hy same
  simpa [State.inFlight, hx, hy, same] using one.of_append_right

/-- The queue gains the order of the context that is reached, or stays. -/
theorem disarmed_queuedConns {s : State} {k : CtxId} {c : ConnId} (queued : c ∈ queuedConns (disarmed s k)) :
    c ∈ queuedConns s ∨ ∃ x, s.context k = some x ∧ c = x.order.conn := by
  unfold disarmed at queued
  split at queued
  · exact .inl queued
  · next x flight =>
    split at queued
    · exact .inl queued
    · split at queued
      · rw [queuedConns_congr (ended_transfers_queue s k x _ _ _).2] at queued
        exact .inl queued
      · have joined : queuedConns (returned s k x (s.conn x.order.conn)) =
            (insertByAdmission x.order s.queue.orders).map (·.conn) := by
          rw [insertByAdmission_eq]
          rfl
        rw [joined] at queued
        have either := ((insertByAdmission_perm x.order s.queue.orders).map (·.conn)).mem_iff.mp queued
        rcases List.mem_cons.mp either with own | old
        · exact .inr ⟨x, flight, own⟩
        · exact .inl old

theorem disarmed_context_other {s : State} {j k : CtxId} (other : j ≠ k) :
    (disarmed s k).context j = s.context j := by
  have released : ∀ t : State, t.transfers = (s.releaseContext k).transfers → t.context j = s.context j :=
    fun t same => (State.context_congr same j).trans (by rw [State.releaseContext_context, if_neg other])
  unfold disarmed
  split
  · rfl
  · next x _ =>
    split
    · rfl
    · split
      · exact released _ (ended_transfers_queue s k x _ _ _).1
      · exact released _ (by rw [releaseContext_eq]; rfl)

/-! ### Both contexts are reached (R147, R149, log entry 12) -/

/-- When each connection has one order at most, both contexts are reached as R147 says, in either order. -/
theorem reachContext_twice {s : State} (one : OneOrderInAll s) {j k : CtxId} (other : j ≠ k) :
    (s.reachContext j).reachContext k = disarmed (disarmed s j) k := by
  rw [reachContext_eq_disarmed fun x => one.alone, reachContext_eq_disarmed fun y flight queued => ?_]
  rw [disarmed_context_other other.symm] at flight
  rcases disarmed_queuedConns queued with old | ⟨x, flight', same⟩
  · exact one.alone flight old
  · exact one.apart other flight' flight same.symm

theorem wouldWithdraw_iff (s : State) (k : CtxId) : s.wouldWithdraw k = true ↔
    ∃ x, s.context k = some x ∧ x.order.source = .balancer ∧ x.state ≠ .fired ∧ s.fireOutstanding x = false := by
  unfold State.wouldWithdraw
  split
  · next none => simp [none]
  · next x flight => simp [flight, reachable_iff, and_comm]

theorem reachContexts_disarmed {s : State} (one : OneOrderInAll s) : Disarmed s s.reachContexts := by
  have inTurn : (s.reachContext .first).reachContext .second = disarmed (disarmed s .first) .second :=
    reachContext_twice one (by decide)
  unfold State.reachContexts
  split
  · next both =>
    obtain ⟨first, second⟩ := Bool.and_eq_true_iff.mp both
    split
    · refine .inr ⟨fun k => ?_, reachContext_twice one (by decide)⟩
      cases k
      · exact (wouldWithdraw_iff s .first).mp first
      · exact (wouldWithdraw_iff s .second).mp second
    · exact .inl inTurn
  · exact .inl inTurn

/-! ### The contexts are reached whatever the ports do -/

section
variable (s : State) (ports : PerPort PortState)

theorem engineTold_withPorts (src : Source) :
    engineTold (s.withPorts ports) src = (engineTold s src).withPorts ports := by
  have orders : allOrders (s.withPorts ports) = allOrders s := rfl
  unfold engineTold
  rw [orders, State.withPorts_engine]
  split <;> rfl

theorem ended_withPorts (k : CtxId) (x : Context) (y : Connection) (e : LogOutcome) (disarm : Bool) :
    ended (s.withPorts ports) k x y e disarm = (ended s k x y e disarm).withPorts ports := by
  unfold ended
  rw [← engineTold_withPorts]
  rfl

theorem disarmed_withPorts (k : CtxId) : disarmed (s.withPorts ports) k = (disarmed s k).withPorts ports := by
  unfold disarmed
  rw [State.context_congr (State.withPorts_transfers s ports)]
  split
  · rfl
  · next x _ =>
    have outstanding : (s.withPorts ports).fireOutstanding x = s.fireOutstanding x := rfl
    rw [outstanding]
    split
    · rfl
    · split
      · exact ended_withPorts s ports k x _ _ _
      · rfl

end

theorem disarmed_ports (s : State) (k : CtxId) : (disarmed s k).ports = s.ports := by
  show (disarmed (s.withPorts s.ports) k).ports = s.ports
  rw [disarmed_withPorts]
  rfl

theorem Disarmed.ports {s t : State} (h : Disarmed s t) : t.ports = s.ports := by
  rcases h with rfl | ⟨-, rfl⟩ <;> rw [disarmed_ports, disarmed_ports]

/-- The contexts of a state whose port has taken a frame are reached as those of the state before it. -/
theorem Disarmed.of_withPorts {s t : State} {ports : PerPort PortState} (h : Disarmed (s.withPorts ports) t) :
    ∃ u, Disarmed s u ∧ t = u.withPorts ports := by
  unfold Disarmed at h
  simp only [disarmed_withPorts] at h
  rcases h with inTurn | ⟨both, inTurn⟩
  · exact ⟨_, .inl rfl, inTurn⟩
  · exact ⟨_, .inr ⟨both, rfl⟩, inTurn⟩

/-! ### The contexts that are left -/

theorem reachable_congr {s t : State} (h : t.bus.outstanding = s.bus.outstanding) : t.reachable = s.reachable := by
  funext x
  simp only [State.reachable, State.fireOutstanding, h]

theorem disarmContext_transfers (s : State) (k : CtxId) (x : Context) :
    (s.disarmContext k x).transfers = (s.releaseContext k).transfers := by
  unfold State.disarmContext
  split
  · exact endTransfer_transfers s k x _ _
  · simp [State.returnOrder]

theorem disarmContext_outstanding (s : State) (k : CtxId) (x : Context) :
    (s.disarmContext k x).bus.outstanding = s.bus.outstanding := by
  unfold State.disarmContext
  split
  · exact endTransfer_outstanding s k x _ _
  · simp [State.raiseRelease]

theorem reachContext_outstanding (s : State) (k : CtxId) :
    (s.reachContext k).bus.outstanding = s.bus.outstanding := by
  unfold State.reachContext
  split
  · rfl
  · split
    · exact disarmContext_outstanding s k _
    · rfl

/-- A context that is reached is gone, and the other stands. -/
theorem reachContext_context (s : State) (k j : CtxId) : (s.reachContext k).context j =
    if j = k then (s.context k).filter (fun x => !s.reachable x) else s.context j := by
  unfold State.reachContext
  split
  · next free =>
    split
    · next same => rw [same, free]; rfl
    · rfl
  · next x flight =>
    split
    · next reached =>
      rw [State.context_congr (disarmContext_transfers s k x), State.releaseContext_context, flight]
      simp [Option.filter, reached]
    · next stays =>
      split
      · next same => simp [same, flight, Option.filter, stays]
      · rfl

/-- Exactly the contexts that are not reached are left. -/
theorem reachContexts_context (s : State) (j : CtxId) :
    s.reachContexts.context j = (s.context j).filter (fun x => !s.reachable x) := by
  have twice : ∀ {k l : CtxId}, k ≠ l → (j = k ∨ j = l) → ((s.reachContext k).reachContext l).context j =
      (s.context j).filter (fun x => !s.reachable x) := by
    intro k l other which
    rw [reachContext_context, reachable_congr (reachContext_outstanding s k), reachContext_context,
      reachContext_context]
    rcases which with rfl | rfl
    · rw [if_neg other, if_pos rfl]
    · rw [if_pos rfl, if_neg other.symm]
  have forward := twice (k := .first) (l := .second) (by decide) (by cases j <;> decide)
  unfold State.reachContexts
  split
  · split
    · exact twice (k := .second) (l := .first) (by decide) (by cases j <;> decide)
    · exact forward
  · exact forward

theorem reachContexts_outstanding (s : State) : s.reachContexts.bus.outstanding = s.bus.outstanding := by
  unfold State.reachContexts
  repeat' split
  all_goals simp only [reachContext_outstanding]

/-! ### What a reached context leaves of the alarms and of a stopped engine -/

theorem disarmContext_alarms (s : State) (k : CtxId) (x : Context) : (s.disarmContext k x).alarms = s.alarms := by
  unfold State.disarmContext
  split
  · rw [endTransfer_eq_ended]
    unfold ended
    rw [engineTold_frame]
    rfl
  · simp

theorem reachContext_alarms (s : State) (k : CtxId) : (s.reachContext k).alarms = s.alarms := by
  unfold State.reachContext
  split
  · rfl
  · split
    · exact disarmContext_alarms s k _
    · rfl

theorem reachContexts_alarms (s : State) : s.reachContexts.alarms = s.alarms := by
  unfold State.reachContexts
  repeat' split
  all_goals simp only [reachContext_alarms]

/-- A stopped engine is told of no order's end (R80). -/
theorem engineTold_stopped {s : State} (stopped : s.engine.state.running = false) (src : Source) :
    engineTold s src = s := by
  refine if_neg fun told => ?_
  rw [told.1] at stopped
  cases stopped

theorem removeQueued_engine {s : State} (stopped : s.engine.state.running = false) (c : ConnId) (e : LogOutcome) :
    (s.removeQueued c e).engine = s.engine := by
  rcases queued : s.queuedOrder c with _ | o
  · rw [removeQueued_of_none queued]
  · rw [removeQueued_eq_removed queued, removed, engineTold_stopped]
    exact stopped

theorem removeBalancer_engine {s : State} (stopped : s.engine.state.running = false) (c : ConnId) (e : LogOutcome) :
    (s.removeBalancer c e).engine = s.engine := by
  unfold State.removeBalancer
  repeat' split
  · rfl
  · exact removeQueued_engine stopped c e
  · rfl

theorem meetReturn_engine {s : State} (stopped : s.engine.state.running = false) (c : ConnId) :
    (s.meetReturn c).engine = s.engine := by
  unfold State.meetReturn
  repeat' split
  · exact removeBalancer_engine stopped c _
  · rfl
  · exact removeBalancer_engine stopped c _

theorem disarmContext_engine {s : State} (stopped : s.engine.state.running = false) (k : CtxId) (x : Context) :
    (s.disarmContext k x).engine = s.engine := by
  have notQuiet : s.engine.state ≠ .quiet := fun quiet => by
    rw [quiet] at stopped
    cases stopped
  unfold State.disarmContext
  split
  · rw [endTransfer_eq_ended, ended, if_neg notQuiet, engineTold_stopped]
    exact stopped
  · unfold State.returnOrder
    exact meetReturn_engine (s := ((s.releaseContext k).withQueue _).setMotion x.order.conn .queued) stopped _

theorem reachContext_engine {s : State} (stopped : s.engine.state.running = false) (k : CtxId) :
    (s.reachContext k).engine = s.engine := by
  unfold State.reachContext
  split
  · rfl
  · split
    · exact disarmContext_engine stopped k _
    · rfl

theorem reachContexts_engine {s : State} (stopped : s.engine.state.running = false) :
    s.reachContexts.engine = s.engine := by
  have twice : ∀ j k, ((s.reachContext j).reachContext k).engine = s.engine := fun j k => by
    rw [reachContext_engine (by rw [reachContext_engine stopped]; exact stopped), reachContext_engine stopped]
  unfold State.reachContexts
  repeat' split
  all_goals exact twice _ _

end Sys2Proof.Claims

/-!
PROOFS. HOLD and RELEASE (R154 to R157): the hold set, and what its two changes between empty and non-empty set off.
-/

namespace Sys2Proof.Claims

open Sys2Proof.Machine

/-! ### The hold set (R154) -/

theorem holdSet_put_eq (v : HoldSet) (p : Port) (b : Bool) : v.put p b = holdWith v p b := by cases p <;> rfl

theorem holdSet_nonempty_iff (v : HoldSet) : v.nonempty = true ↔ v ≠ ⟨false, false⟩ := by
  obtain ⟨a, b⟩ := v
  revert a b
  decide

theorem holdSet_nonempty_eq_false (v : HoldSet) : v.nonempty = false ↔ v = ⟨false, false⟩ := by
  rw [← Bool.not_eq_true, holdSet_nonempty_iff, not_not]

/-- A port has joined the hold set. -/
def holding (s : State) (p : Port) : State := { s with hold := holdWith s.hold p true }

/-- A port that may hold is a member once it has joined. -/
theorem holding_nonempty (s : State) {p : Port} (may : p ≠ .sp) : (holding s p).hold.nonempty = true := by
  cases p
  · rfl
  · exact absurd rfl may
  · exact Bool.or_true _

/-! ### The engine under a hold (R72, R73) -/

/-- The state a stopping condition shows is no running one. -/
theorem stoppedAs_not_running {s : State} {st : EngineState} (stopped : stoppedAs s = some st) :
    st.running = false := by
  unfold stoppedAs at stopped
  split_ifs at stopped <;> cases stopped <;> rfl

theorem stoppedAs_of_hold {s : State} (held : s.hold.nonempty = true) : ∃ st, stoppedAs s = some st := by
  have member : s.hold.op = true ∨ s.hold.pp = true := by simpa [HoldSet.nonempty] using held
  unfold stoppedAs
  rw [if_pos member]
  split_ifs <;> exact ⟨_, rfl⟩

theorem engineReviewed_of_hold {s : State} (held : s.hold.nonempty = true) :
    (engineReviewed s).state.running = false := by
  obtain ⟨st, stopped⟩ := stoppedAs_of_hold held
  rw [engineReviewed_of_stopped stopped]
  split <;> exact stoppedAs_not_running stopped

/-! ### The last parts of an event under a hold (R103, R131) -/

/-- Under a hold the last parts of an event are the arbiter's choice and the lines. -/
theorem finish_of_hold {s : State} (held : s.hold.nonempty = true) : s.finish = s.arbitrate.setLines := by
  have stopped : s.movesAllowed = false := by simp [State.movesAllowed, held]
  have slot : s.takeFireSlot = s := by simp [State.takeFireSlot, stopped]
  rw [State.finish, State.dispatchChoice, slot, dispatchOnce_stopped stopped, dispatchOnce_stopped stopped]

/-- The arbiter starts and ends no transfer: what is in flight after it was before. -/
theorem SlotsAlone.context_back {s t : State} (h : SlotsAlone s t) {k : CtxId} {y : Context}
    (flight : t.context k = some y) :
    ∃ x, s.context k = some x ∧ x.state = y.state ∧ x.dispatchNumber = y.dispatchNumber := by
  obtain ⟨-, -, none, some⟩ := h
  rcases before : s.context k with _ | x
  · rw [none k before] at flight
    cases flight
  · obtain ⟨z, after, same⟩ := some k x before
    obtain rfl : z = y := Option.some.inj (after.symm.trans flight)
    exact ⟨x, rfl, by rw [same], by rw [same]⟩

/-! ### The requests -/

/-- A response begun on the port that took the request, its other ports untouched in between (R169). -/
theorem answers_answered {s t : State} {p : Port} (ports : t.ports = (taken s p).ports) (code status : Byte)
    (data : List Byte) : Answers s (answered t p code status data) p code status data := by
  simp [Answers, answered, ports, taken]

theorem exec_hold {s : State} {p : Port} (ready : Ready s p) (may : p ≠ .sp) : exec (.hold p []) s =
    (let r := serveHold p (taken s p)
     .next (answered r.state p 0xA0 r.status.byte r.data)) := by
  have permitted : Command.hold.permitted p = true := bne_iff_ne.mpr may
  rw [exec_hold_ready p _ s ready.1 ready.2 permitted rfl]
  rfl

theorem exec_release {s : State} {p : Port} (ready : Ready s p) (may : p ≠ .sp) : exec (.release p []) s =
    (let r := serveRelease p (taken s p)
     .next (answered r.state p 0xA1 r.status.byte r.data)) := by
  have permitted : Command.release.permitted p = true := bne_iff_ne.mpr may
  rw [exec_release_ready p _ s ready.1 ready.2 permitted rfl]
  rfl

/-- A hold that stands already gains a member and sets nothing off. -/
theorem serveHold_standing (s : State) (p : Port) (standing : s.hold ≠ ⟨false, false⟩) : serveHold p s =
    ⟨holding s p, .ok, [holdCode (holdWith s.hold p true)]⟩ := by
  have held : ¬ (s.hold.nonempty = false ∧ (s.withHold (holdWith s.hold p true)).hold.nonempty = true) :=
    fun begins => standing ((holdSet_nonempty_eq_false _).mp begins.1)
  simp only [serveHold, holdSet_put_eq, if_neg held, holdCode_eq]
  rfl

/-- The first member of the hold set begins the hold (R156). -/
theorem serveHold_begins (s : State) {p : Port} (may : p ≠ .sp) (empty : s.hold = ⟨false, false⟩) : serveHold p s =
    ⟨(holding s p).holdBegins, .ok, [holdCode (holdWith s.hold p true)]⟩ := by
  have begins : s.hold.nonempty = false ∧ (s.withHold (holdWith s.hold p true)).hold.nonempty = true :=
    ⟨(holdSet_nonempty_eq_false _).mpr empty, holding_nonempty s may⟩
  simp only [serveHold, holdSet_put_eq, if_pos begins, State.holdBegins_frame, holdCode_eq]
  rfl

/-- A member that leaves a hold which goes on, or which never was, sets nothing off. -/
theorem serveRelease_standing (s : State) (p : Port)
    (standing : s.hold = ⟨false, false⟩ ∨ holdWith s.hold p false ≠ ⟨false, false⟩) : serveRelease p s =
    ⟨{ s with hold := holdWith s.hold p false }, .ok, [holdCode (holdWith s.hold p false)]⟩ := by
  have stays : ¬ (s.hold.nonempty = true ∧ (s.withHold (holdWith s.hold p false)).hold.nonempty = false) :=
    fun ends => standing.elim ((holdSet_nonempty_iff _).mp ends.1)
      fun left => left ((holdSet_nonempty_eq_false _).mp ends.2)
  simp only [serveRelease, holdSet_put_eq, if_neg stays, holdCode_eq]
  rfl

/-- The last member of the hold set ends the hold (R157). -/
theorem serveRelease_ends (s : State) (p : Port) (held : s.hold ≠ ⟨false, false⟩)
    (last : holdWith s.hold p false = ⟨false, false⟩) : serveRelease p s =
    ⟨State.holdEnds { s with hold := holdWith s.hold p false }, .ok, [holdCode (holdWith s.hold p false)]⟩ := by
  have ends : s.hold.nonempty = true ∧ (s.withHold (holdWith s.hold p false)).hold.nonempty = false :=
    ⟨(holdSet_nonempty_iff _).mpr held, (holdSet_nonempty_eq_false _).mpr last⟩
  simp only [serveRelease, holdSet_put_eq, if_pos ends, State.holdEnds_frame, holdCode_eq]
  rfl

/-- Settles O24: the last member that leaves ends the hold, any other leaves the set alone. -/
theorem releaseEndsTheHold : Obligations.ReleaseEndsTheHold := by
  intro s p ready may left
  rw [exec_release ready may]
  refine ⟨fun standing => ?_, fun held last => ⟨_, rfl, ?_⟩⟩
  · rw [serveRelease_standing (taken s p) p standing]
    rfl
  · rw [serveRelease_ends (taken s p) p held last, State.holdEnds, reviewStopping_eq]
    exact (answered_finish _ p 0xA1 0x00 _).symm

/-! ### The beginning of a hold (R156) -/

/-- The state of a hold's beginning once its own effects are done and the last parts of the event are still to come. -/
def holdEffects (s : State) : State := (s.withEngine (engineReviewed s)).reachContexts.raise .holdChanged

theorem holdBegins_eq (s : State) : s.holdBegins = (holdEffects s).finish := by
  rw [State.holdBegins, reviewStopping_eq]
  rfl

/-- Exactly the contexts that are FIRED or have their FIRE outstanding stand after the hold's own effects. -/
theorem holdEffects_context (s : State) (k : CtxId) :
    (holdEffects s).context k = (s.context k).filter (fun x => !s.reachable x) :=
  reachContexts_context (s.withEngine (engineReviewed s)) k

theorem holdBegins_engine {s : State} (held : s.hold.nonempty = true) : s.holdBegins.engine = engineReviewed s := by
  have stopped : (s.withEngine (engineReviewed s)).engine.state.running = false := engineReviewed_of_hold held
  rw [holdBegins_eq, holdEffects]
  simp only [State.finish_frame, State.raise_frame, reachContexts_engine stopped]
  rfl

theorem holdBegins_has (s : State) (q : Port) (a : Alarm) :
    (s.holdBegins.alarms.get q).has a = true ↔ (s.alarms.get q).has a = true ∨ a = .holdChanged := by
  have alarms : s.holdBegins.alarms = (holdEffects s).alarms := by simp [holdBegins_eq]
  rw [alarms, holdEffects, raise_has, reachContexts_alarms]
  rfl

/-- A context that is FIRED or has its FIRE outstanding goes on. -/
theorem holdBegins_keeps {s : State} {k : CtxId} {x : Context} (flight : s.context k = some x)
    (stays : x.state = .fired ∨ s.fireOutstanding x = true) :
    ∃ y, s.holdBegins.context k = some y ∧ y.order = x.order ∧ y.state = x.state := by
  have left : (holdEffects s).context k = some x := by
    have unreached : s.reachable x = false :=
      Bool.eq_false_iff.mpr fun reached => (reachable_iff s x).mp reached stays
    rw [holdEffects_context, flight]
    simp [Option.filter, unreached]
  obtain ⟨-, -, -, -, -, goesOn⟩ := (finish_effects (holdEffects s)).1
  obtain ⟨y, after, order, state, -⟩ := goesOn k x left
  exact ⟨y, holdBegins_eq s ▸ after, order, state⟩

/-- No other context is left: under a hold the last parts of the event start none. -/
theorem holdBegins_left {s : State} (held : s.hold.nonempty = true) : OnlyFiredLeft s s.holdBegins := by
  intro k y after
  have holds : (holdEffects s).hold.nonempty = true := by simpa [holdEffects] using held
  rw [holdBegins_eq, finish_of_hold holds] at after
  obtain ⟨x, left, state, number⟩ := (arbitrate_slotsAlone (holdEffects s)).context_back after
  rw [holdEffects_context, Option.filter_eq_some_iff] at left
  have unreached : ¬ s.reachable x = true := by simpa using left.2
  rw [reachable_iff, not_not] at unreached
  simpa only [State.fireOutstanding, state, number] using unreached

/-- The beginning of a hold leaves every block that is not named here. -/
theorem holdBegins_fields (s : State) : s.holdBegins = { s with
    hold := s.holdBegins.hold, engine := s.holdBegins.engine, transfers := s.holdBegins.transfers,
    queue := s.holdBegins.queue, conns := s.holdBegins.conns, bus := s.holdBegins.bus, log := s.holdBegins.log,
    alarms := s.holdBegins.alarms, attention := s.holdBegins.attention, ports := s.holdBegins.ports } := by
  apply State.eq_of_fields <;> simp

/-- The contexts are reached before the port begins its response. -/
theorem holdBegins_disarmed {s : State} (one : OneOrderInAll s) (p : Port) :
    ∃ u, Disarmed { s with engine := engineReviewed s } u
      ∧ holdEffects (taken s p) =
        taken { u with alarms := u.alarms.map fun v => { v with holdChanged := true } } p := by
  have reached : Disarmed (({ s with engine := engineReviewed s } : State).withPorts (taken s p).ports)
      ((taken s p).withEngine (engineReviewed s)).reachContexts := reachContexts_disarmed one
  obtain ⟨u, disarmed, same⟩ := reached.of_withPorts
  refine ⟨u, disarmed, ?_⟩
  have effects : holdEffects (taken s p) =
      ((taken s p).withEngine (engineReviewed s)).reachContexts.raise .holdChanged := rfl
  rw [effects, same, taken, disarmed.ports]
  rfl

/-- Settles O23: the first member of the hold set stops the engine and the transfers that have not fired. -/
theorem holdStopsUnfiredTransfers : Obligations.HoldStopsUnfiredTransfers := by
  intro s p ready may held
  rw [exec_hold ready may]
  refine ⟨fun standing => ?_, fun empty one => ?_, fun empty => ?_⟩
  · rw [serveHold_standing (taken s p) p standing]
    rfl
  · obtain ⟨u, disarmed, effects⟩ := holdBegins_disarmed (s := { s with hold := held }) one p
    refine ⟨_, u, rfl, disarmed, ?_⟩
    rw [serveHold_begins (taken s p) may empty, holdBegins_eq]
    exact (congrArg (fun v => answered (State.finish v) p 0xA0 0x00 [holdCode held]) effects).trans
      (answered_finish _ p 0xA0 0x00 _).symm
  · rw [serveHold_begins (taken s p) may empty]
    have holds := holding_nonempty (taken s p) may
    have hold : (holding (taken s p) p).holdBegins.hold = (holding (taken s p) p).hold := by simp
    have ports : (holding (taken s p) p).holdBegins.ports = (taken s p).ports := by simp [holding]
    refine ⟨_, rfl, hold, ?_, holdBegins_engine holds, holdBegins_left holds,
      fun k x flight stays => holdBegins_keeps flight stays, holdBegins_has (holding (taken s p) p), ?_, ?_⟩
    · exact answers_answered ports 0xA0 0x00 [holdCode held]
    · exact holdBegins_eq (holding (taken s p) p) ▸ (finish_effects _).2
    · exact congrArg (answered · p 0xA0 0x00 [holdCode held]) (holdBegins_fields (holding (taken s p) p))

end Sys2Proof.Claims

/-!
PROOFS. The balancer's pause (R75) and WRITE_SETTING (R71, R133, R172): one flag and the review of the stopping
conditions; the value that a write stores, and what the write sets off.
-/

namespace Sys2Proof.Claims

open Sys2Proof.Machine

/-! ### PAUSE_BALANCER and RESUME_BALANCER (R75) -/

theorem exec_pauseBalancer {s : State} {p : Port} (ready : Ready s p) (master : p ≠ .pp) :
    exec (.pauseBalancer p []) s =
      (let r := servePause (taken s p)
       .next (answered r.state p 0xA8 r.status.byte r.data)) := by
  have permitted : Command.pauseBalancer.permitted p = true := bne_iff_ne.mpr master
  rw [exec_pauseBalancer_ready p _ s ready.1 ready.2 permitted rfl]
  rfl

theorem exec_resumeBalancer {s : State} {p : Port} (ready : Ready s p) (master : p ≠ .pp) :
    exec (.resumeBalancer p []) s =
      (let r := serveResume (taken s p)
       .next (answered r.state p 0xA9 r.status.byte r.data)) := by
  have permitted : Command.resumeBalancer.permitted p = true := bne_iff_ne.mpr master
  rw [exec_resumeBalancer_ready p _ s ready.1 ready.2 permitted rfl]
  rfl

/-- The stopping conditions are reviewed with the flag as it is to stand. -/
theorem pause_reviewed (s : State) (b : Bool) : (s.withEngine { s.engine with paused := b }).reviewStopping =
    { s with engine := engineReviewed { s with engine := { s.engine with paused := b } } } :=
  reviewStopping_eq _

/-- Settles O26: each request changes the flag where it does not stand so already. -/
theorem pauseIsOneFlag : Obligations.PauseIsOneFlag := by
  intro s p ready master
  have flag : (taken s p).engine.paused = s.engine.paused := rfl
  rw [exec_pauseBalancer ready master, exec_resumeBalancer ready master, servePause, serveResume, flag,
    pause_reviewed, pause_reviewed]
  by_cases paused : s.engine.paused = true
  · simp only [if_pos paused]
    exact ⟨rfl, rfl⟩
  · simp only [if_neg paused]
    exact ⟨rfl, rfl⟩

/-! ### The number of a setting (R188) -/

theorem settingId_ofNumber_number (id : SettingId) : SettingId.ofNumber id.number.val = some id := by cases id <;> rfl

theorem settingId_ofNumber_above {n : Nat} (above : 28 < n) : SettingId.ofNumber n = none :=
  List.getElem?_eq_none (Nat.succ_le_of_lt above)

/-! ### The value that is stored (R71, R133, R172) -/

/-- A value is found in a list of numbers when it is one of them. -/
theorem find?_int_eq (l : List Nat) (value : Int) : (l.find? fun n : Nat => (n : Int) == value) =
    if 0 ≤ value ∧ value.toNat ∈ l then some value.toNat else none := by
  split
  · next listed =>
    obtain ⟨positive, member⟩ := listed
    have same : (value.toNat : Int) = value := Int.toNat_of_nonneg positive
    obtain ⟨n, found⟩ : ∃ n, (l.find? fun n : Nat => (n : Int) == value) = some n :=
      Option.isSome_iff_exists.mp (List.find?_isSome.mpr ⟨_, member, beq_iff_eq.mpr same⟩)
    have equal : (n : Int) = value := beq_iff_eq.mp (List.find?_some (p := fun n : Nat => (n : Int) == value) found)
    rw [found, ← equal, Int.toNat_natCast]
  · next unlisted =>
    refine List.find?_eq_none.mpr fun n member equal => unlisted ?_
    obtain rfl : (n : Int) = value := beq_iff_eq.mp equal
    exact ⟨Int.natCast_nonneg n, by rwa [Int.toNat_natCast]⟩

/-- U_stop is kept below U_start; every other setting takes the value that fits (R71). -/
theorem store_value (st : Settings) (id : SettingId) (n : Nat) : (st.store id n).2 =
    if id = .uStop then min n (st.numeric.get SettingId.uStart.number - 1) else n := by
  unfold Settings.store
  dsimp only
  split
  · rw [if_pos rfl]
    split <;> dsimp only <;> omega
  · split <;> rfl
  · next notStop _ => rw [if_neg notStop]

/-- The value that fits, with U_stop kept below U_start, is the value of R172. -/
theorem storedValue_eq (st : Settings) (id : SettingId) (value : Int) : storedValue st id value =
    (id.fit value).map fun n => (st.store id n).2 := by
  unfold storedValue SettingId.fit
  rw [settingRow_values]
  simp only [store_value]
  rcases values : id.values with ⟨low, high⟩ | vs
  · by_cases dead : id = .deadInterval
    · subst dead
      simp only [if_true, Option.map_some, reduceCtorEq, if_false, clampInt, Option.some.injEq]
      omega
    · simp only [if_neg dead, Option.map_some, clampInt]
  · have notStop : id ≠ .uStop := by
      rintro rfl
      cases values
    simp only [if_neg notStop, Option.map_id', find?_int_eq]

theorem setNumeric_eq (st : Settings) (id : SettingId) {numeric : Fin 29 → Nat} {n : Nat}
    (same : ∀ j, numeric j = if j = id.number then n else st.numeric.get j) :
    st.setNumeric id n = { st with numeric := Vector.ofFn numeric } := by
  refine congrArg (fun v : Vector Nat 29 => { st with numeric := v }) (Vector.ext fun i hi => ?_)
  have written := vector_get_set st.numeric id.number ⟨i, hi⟩ n
  rw [Vector.getElem_ofFn, same]
  exact written

/-- A write of another setting than U_start stores one number. -/
theorem settingStored_single (st : Settings) {id : SettingId} (other : id ≠ .uStart) (n : Nat) :
    settingStored st id n = st.setNumeric id n :=
  (setNumeric_eq st id fun j => by simp only [other, false_and, if_false]).symm

/-- A lowered U_start lowers U_stop with it; nothing else is stored (R71). -/
theorem store_settings (st : Settings) (id : SettingId) (n : Nat) :
    (st.store id n).1 = settingStored st id (st.store id n).2 := by
  unfold Settings.store
  dsimp only
  split
  · split <;> exact (settingStored_single st (by decide) _).symm
  · have numbers : SettingId.uStop.number ≠ SettingId.uStart.number := by decide
    split
    · next lowers =>
      refine setNumeric_eq _ .uStop fun j => ?_
      simp only [Settings.setNumeric, vector_get_set, true_and]
      by_cases stop : j = SettingId.uStop.number
      · subst stop
        rw [if_neg numbers, if_pos rfl, if_pos rfl]
        omega
      · rw [if_neg stop, if_neg stop]
    · next above =>
      refine setNumeric_eq st .uStart fun j => ?_
      by_cases stop : j = SettingId.uStop.number
      · subst stop
        simp only [true_and, if_pos, if_neg numbers]
        omega
      · simp only [stop, and_false, if_false]
  · next _ notStart => exact (settingStored_single st notStart n).symm

/-! ### What a write sets off (R72, R103) -/

/-- A write of the balancer enable has its stopping conditions reviewed (R72). -/
def enableReviewed (s : State) (id : SettingId) : State :=
  if id = .balancerEnable then { s with engine := engineReviewed s } else s

theorem settingWritten_eq (s : State) (id : SettingId) : s.settingWritten id =
    if id = .dailyBudget then (enableReviewed s id).finish else enableReviewed s id := by
  unfold State.settingWritten enableReviewed
  rw [reviewStopping_eq]
  by_cases enable : id = .balancerEnable
  · subst enable
    rfl
  · simp only [if_neg enable]

/-- The response of a write of the daily budget is begun before the last parts of the event as well as after them. -/
theorem answered_settingWritten (s : State) (id : SettingId) (p : Port) (code status : Byte) (data : List Byte) :
    if id = .dailyBudget then
      Tail (answered (enableReviewed s id) p code status data) (answered (s.settingWritten id) p code status data)
    else answered (s.settingWritten id) p code status data = answered (enableReviewed s id) p code status data := by
  rw [settingWritten_eq]
  split
  · exact (answered_finish _ p code status data).symm
  · rfl

theorem enableReviewed_taken (s : State) (id : SettingId) (p : Port) :
    enableReviewed (taken s p) id = taken (enableReviewed s id) p := by
  unfold enableReviewed
  split <;> rfl

/-! ### WRITE_SETTING (R172) -/

theorem exec_writeSetting {s : State} {p : Port} (ready : Ready s p) (master : p ≠ .pp) (n a b c d : Byte) :
    exec (.writeSetting p [n, a, b, c, d]) s =
      (let r := serveWriteSetting n (fromFour a b c d) (taken s p)
       .next (answered r.state p 0xB8 r.status.byte r.data)) := by
  have permitted : Command.writeSetting.permitted p = true := bne_iff_ne.mpr master
  rw [exec_writeSetting_ready p _ s ready.1 ready.2 permitted rfl, fromFour_eq]
  rfl

/-- The value written, or U_stop with it, was adjusted (R71, R172). -/
theorem adjusted_iff (st : Settings) (id : SettingId) (n : Nat) (value : Int) :
    (((st.store id n).2 : Int) != value || st.lowersStop id n) = true ↔
      ((st.store id n).2 : Int) ≠ value
        ∨ id = .uStart ∧ (st.store id n).2 ≤ st.numeric.get SettingId.uStop.number := by
  unfold Settings.lowersStop
  simp only [Bool.or_eq_true, bne_iff_ne, Bool.and_eq_true, beq_iff_eq, decide_eq_true_eq]
  refine or_congr_right (and_congr_right ?_)
  rintro rfl
  rw [store_value, if_neg (by decide)]

/-- The value of R172 comes from one that fits. -/
theorem fit_of_storedValue {st : Settings} {id : SettingId} {value : Int} {v : Nat}
    (stored : storedValue st id value = some v) : ∃ n, id.fit value = some n ∧ (st.store id n).2 = v := by
  rw [storedValue_eq] at stored
  exact Option.map_eq_some_iff.mp stored

/-- A value outside a list is refused. -/
theorem serveWriteSetting_unlisted {s : State} {n : Byte} {id : SettingId} {value : Word}
    (number : n.toNat = id.number) (unlisted : storedValue s.settings id value.toInt = none) :
    serveWriteSetting n value s = s.refuse .badValue := by
  rw [storedValue_eq, Option.map_eq_none_iff] at unlisted
  simp only [serveWriteSetting, number, settingId_ofNumber_number, unlisted]

/-- No setting is written during a save. -/
theorem serveWriteSetting_saving {s : State} {n : Byte} {id : SettingId} {value : Word} {v : Nat}
    (number : n.toNat = id.number) (stored : storedValue s.settings id value.toInt = some v)
    (saving : s.saving.isSome = true) : serveWriteSetting n value s = s.refuse .busy := by
  obtain ⟨m, fits, -⟩ := fit_of_storedValue stored
  simp only [serveWriteSetting, number, settingId_ofNumber_number, fits, if_pos saving]

/-- The value of R172 is stored and answered, OK_CLAMPED when it or U_stop was adjusted. -/
theorem serveWriteSetting_stored {s : State} {n : Byte} {id : SettingId} {value : Word} {v : Nat}
    (number : n.toNat = id.number) (stored : storedValue s.settings id value.toInt = some v)
    (idle : ¬ s.saving.isSome = true) {status : Status}
    (clamped : status =
      if (v : Int) ≠ value.toInt ∨ id = .uStart ∧ v ≤ s.setting .uStop then .okClamped else .ok) :
    serveWriteSetting n value s =
      ⟨({ s with settings := settingStored s.settings id v } : State).settingWritten id, status, fourOf v⟩ := by
  obtain ⟨m, fits, rfl⟩ := fit_of_storedValue stored
  rw [clamped]
  simp only [serveWriteSetting, number, settingId_ofNumber_number, fits, if_neg idle, adjusted_iff, fourOf_eq,
    store_settings]
  rfl

/-- Settles O29: the value of R172 is stored and answered, or the write is refused. -/
theorem settingIsStored : Obligations.SettingIsStored := by
  intro s p n a b c d ready master value
  rw [exec_writeSetting ready master]
  refine ⟨fun above => ?_, fun id number => ?_⟩
  · rw [serveWriteSetting, settingId_ofNumber_above above]
    rfl
  · rw [settingRow_number] at number
    rcases stored : storedValue s.settings id value with _ | v
    · rw [serveWriteSetting_unlisted (s := taken s p) number stored]
      rfl
    · dsimp only
      split
      · next saving =>
        rw [serveWriteSetting_saving (s := taken s p) number stored saving]
        rfl
      · next idle =>
        have written :=
          answered_settingWritten (taken { s with settings := settingStored s.settings id v } p) id p 0xB8
        rw [enableReviewed_taken] at written
        by_cases adjusted : (v : Int) ≠ value ∨ id = .uStart ∧ v ≤ s.setting .uStop
        · rw [serveWriteSetting_stored (s := taken s p) (status := .okClamped) number stored idle
            (if_pos adjusted).symm]
          exact ⟨_, rfl, fun _ => written 0x01 (fourOf v), fun unadjusted => absurd adjusted unadjusted⟩
        · rw [serveWriteSetting_stored (s := taken s p) (status := .ok) number stored idle (if_neg adjusted).symm]
          exact ⟨_, rfl, fun other => absurd other adjusted, fun _ => written 0x00 (fourOf v)⟩

end Sys2Proof.Claims

/-!
PROOFS. WRITE_TRIGGER (R81, R82): the configurations that its bytes name, and the entry that an accepted write leaves.
Then the four invariants at reset (R71, R89, R165, R183, R188).
-/

namespace Sys2Proof.Claims

open Sys2Proof.Machine

/-! ### The configurations that bytes name (R82) -/

theorem quantity_ofByte_quantityCode (q : Quantity) : Quantity.ofByte (quantityCode q) = some q := by cases q <;> rfl

theorem comparison_ofByte_comparisonCode (cmp : Comparison) : Comparison.ofByte (comparisonCode cmp) = some cmp := by
  cases cmp <;> rfl

/-- The only phases that may be empty are those of the unbalance index, whose code is 4. -/
theorem quantity_ofByte_unbalance {b : Byte} (h : Quantity.ofByte b = some .unbalance) : b.toNat = 4 := by
  unfold Quantity.ofByte at h
  repeat' split at h
  · cases h
  · cases h
  · cases h
  · cases h
  · next code => rw [code]; rfl
  · cases h

theorem quantity_ofByte_above {b : Byte} (above : 4 < b.toNat) : Quantity.ofByte b = none := by
  have other : ∀ c : Byte, c.toNat ≤ 4 → b ≠ c := fun c small same => absurd (same ▸ small) (by omega)
  rw [Quantity.ofByte, if_neg (other 0 (by decide)), if_neg (other 1 (by decide)), if_neg (other 2 (by decide)),
    if_neg (other 3 (by decide)), if_neg (other 4 (by decide))]

theorem comparison_ofByte_above {b : Byte} (above : 1 < b.toNat) : Comparison.ofByte b = none := by
  have other : ∀ c : Byte, c.toNat ≤ 1 → b ≠ c := fun c small same => absurd (same ▸ small) (by omega)
  rw [Comparison.ofByte, if_neg (other 0 (by decide)), if_neg (other 1 (by decide))]

theorem readPhaseSet_above {b : Byte} (above : 7 < b.toNat) : readPhaseSet b = none := if_neg (by omega)

/-- A code above the quantities or the comparisons, a bit that names no phase, or no phase for a quantity of phases: no
configuration. -/
theorem readTrigger_refused {phases quantity comparison : Byte} (enabled : Byte) (threshold : Word) (persistence : Byte)
    (wrong : 4 < quantity.toNat ∨ 1 < comparison.toNat ∨ 7 < phases.toNat ∨ phases.toNat = 0 ∧ quantity.toNat ≠ 4) :
    readTrigger enabled phases quantity comparison threshold persistence = none := by
  unfold readTrigger
  rcases wrong with above | above | above | ⟨empty, watched⟩
  · rw [quantity_ofByte_above above]
  · rw [comparison_ofByte_above above]
    cases Quantity.ofByte quantity <;> rfl
  · rw [readPhaseSet_above above]
    cases Quantity.ofByte quantity <;> cases Comparison.ofByte comparison <;> rfl
  · rw [show phases = 0 from BitVec.eq_of_toNat_eq empty]
    rcases named : Quantity.ofByte quantity with _ | q
    · rfl
    · have ofPhases : q ≠ .unbalance := by
        rintro rfl
        exact watched (quantity_ofByte_unbalance named)
      rcases Comparison.ofByte comparison with _ | cmp
      · rfl
      · exact if_pos ⟨rfl, ofPhases⟩

/-- The codes of a quantity, a comparison and a set that the quantity allows name a configuration, clamped. -/
theorem readTrigger_codes {q : Quantity} {v : PhaseSet} (cmp : Comparison) (enabled : Byte) (threshold : Word)
    (persistence : Byte) (allowed : v = ⟨false, false, false⟩ → q = .unbalance) :
    readTrigger enabled (phasesCode v) (quantityCode q) (comparisonCode cmp) threshold persistence =
      some ⟨enabled != 0, v, q, cmp, max (thresholdRange q).1 (min (thresholdRange q).2 threshold.toInt),
        max 1 (min persistence.toNat 15)⟩ := by
  have admitted : ¬ (phaseCount v = 0 ∧ q ≠ .unbalance) := fun ⟨empty, ofPhases⟩ =>
    ofPhases (allowed (not_not.mp fun nonempty => phaseCount_pos nonempty empty))
  simp only [readTrigger, quantity_ofByte_quantityCode, comparison_ofByte_comparisonCode, readPhaseSet_phasesCode,
    if_neg admitted, thresholdRange_eq]
  rfl

/-! ### The request -/

theorem exec_writeTrigger {s : State} {p : Port} (ready : Ready s p) (master : p ≠ .pp)
    (n enabled phases quantity comparison a b c d persistence : Byte) :
    exec (.writeTrigger p [n, enabled, phases, quantity, comparison, a, b, c, d, persistence]) s =
      (let r := serveWriteTrigger n enabled phases quantity comparison (fromFour a b c d) persistence (taken s p)
       .next (answered r.state p 0xBA r.status.byte r.data)) := by
  have permitted : Command.writeTrigger.permitted p = true := bne_iff_ne.mpr master
  rw [exec_writeTrigger_ready p _ s ready.1 ready.2 permitted rfl, fromFour_eq]
  rfl

/-- A number above the entries, or bytes that name no configuration: BAD_VALUE. -/
theorem serveWriteTrigger_refused {n enabled phases quantity comparison persistence : Byte} {threshold : Word}
    (wrong : n.toNat < 8 → readTrigger enabled phases quantity comparison threshold persistence = none) (s : State) :
    serveWriteTrigger n enabled phases quantity comparison threshold persistence s = s.refuse .badValue := by
  unfold serveWriteTrigger
  split
  · next inside => rw [wrong inside]
  · rfl

/-- A configuration is stored in its entry, OK_CLAMPED when a field was adjusted, but during a save. -/
theorem serveWriteTrigger_named {n enabled phases quantity comparison persistence : Byte} {threshold : Word}
    {i : TriggerId} {g : TriggerConfig} (number : n.toNat = i.val)
    (named : readTrigger enabled phases quantity comparison threshold persistence = some g) (s : State) :
    serveWriteTrigger n enabled phases quantity comparison threshold persistence s =
      if s.saving.isSome then s.refuse .busy
      else ⟨s.writeTriggerEntry i g,
        if g.threshold = threshold.toInt ∧ g.persistence = persistence.toNat then .ok else .okClamped, []⟩ := by
  have inside : n.toNat < 8 := number ▸ i.isLt
  have entry : (⟨n.toNat, inside⟩ : TriggerId) = i := Fin.ext number
  simp only [serveWriteTrigger, dif_pos inside, named, entry]
  by_cases kept : g.threshold = threshold.toInt ∧ g.persistence = persistence.toNat
  · have same : (g.threshold != threshold.toInt || g.persistence != persistence.toNat) = false := by simp [kept]
    simp only [if_pos kept, same, Bool.false_eq_true, if_false]
  · have adjusted : (g.threshold != threshold.toInt || g.persistence != persistence.toNat) = true := by
      simpa [Decidable.imp_iff_not_or] using kept
    simp only [if_neg kept, if_pos adjusted]

/-- Settles O31: the named configuration is stored in its entry, or the write is refused. -/
theorem triggerIsConfigured : Obligations.TriggerIsConfigured := by
  intro s p n enabled phases quantity comparison a b c d persistence ready master
  dsimp only
  rw [exec_writeTrigger ready master]
  refine ⟨fun wrong => ?_, fun i q cmp v number quantityIs comparisonIs phasesIs allowed => ?_⟩
  · rw [serveWriteTrigger_refused fun inside =>
      readTrigger_refused _ _ _ (wrong.resolve_left (Nat.not_le.mpr inside))]
    rfl
  · subst quantityIs comparisonIs phasesIs
    rw [serveWriteTrigger_named number (readTrigger_codes cmp enabled _ persistence allowed)]
    have saving : (taken s p).saving = s.saving := rfl
    rw [saving]
    split
    · rfl
    · dsimp only
      split
      · rfl
      · rfl

/-! ### The reset state -/

theorem logConsecutive_of_empty {s : State} (empty : s.log.records = []) : LogConsecutive s := by
  have length : s.log.records.length = 0 := by rw [empty]; rfl
  exact ⟨by omega, fun i => absurd i.isLt (by omega)⟩

/-- Settles O60: at reset nothing is logged, queued or in flight, the defaults are sound, and every line is asserted. -/
theorem resetMeetsTheInvariants : Obligations.ResetMeetsTheInvariants := by
  refine ⟨?_, ?_, ?_, ?_⟩
  · exact lines_iff _ rfl
  · exact logConsecutive_of_empty rfl
  · have bad : State.reset.image = none := rfl
    exact .of_noSave settingsSound_defaults (fun st good => absurd (bad.symm.trans good) nofun) rfl
  · exact ordersSound_of_none rfl rfl rfl

end Sys2Proof.Claims

/-!
PROOFS. READ_QUEUE and the order requests (R91 to R96, R98, R102, R106): what each answers, and the order that it
lists, places, cancels or changes.
-/

namespace Sys2Proof.Claims

open Sys2Proof.Machine

/-! ### READ_QUEUE (R106, R181) -/

theorem orderBytes_eq (o : Order) : o.bytes =
    [byteOf o.conn.val, phaseCode (some o.target), sourceCode o.source, byteOf o.priority]
      ++ fourBytes o.admissionTime ++ twoOf o.life ++ [triggerCode o.trigger] ++ twoOf (o.gain.getD 0) := by
  simp only [Order.bytes, gainBytes, phaseCode_eq, sourceCode_eq, fourBytes_eq, twoOf_eq, triggerCode_eq]

theorem exec_readQueue {s : State} {p : Port} (ready : Ready s p) (n : Byte) : exec (.readQueue p [n]) s =
    (let r := serveReadQueue n (taken s p)
     .next (answered r.state p 0x86 r.status.byte r.data)) := by
  rw [exec_readQueue_ready p [n] s ready.1 ready.2 (by cases p <;> rfl) rfl, serve_readQueue]
  rfl

/-- Settles O13: the response lists up to six orders from the start, each with the fields of R181. -/
theorem queueReadShowsTheOrders : Obligations.QueueReadShowsTheOrders := by
  intro s p n ready
  rw [exec_readQueue ready, serveReadQueue]
  refine ⟨fun inside => ?_, fun above => ?_⟩
  · rw [if_neg (by omega), ← funext orderBytes_eq]
    rfl
  · rw [if_pos above]
    rfl

/-! ### The queue apart from the ports -/

section
variable (s : State) (o : Order) (e : LogOutcome) (p : Port)

theorem removed_withPorts (ports : PerPort PortState) :
    removed (s.withPorts ports) o e = (removed s o e).withPorts ports := by
  unfold removed
  rw [← engineTold_withPorts]
  rfl

theorem replaced_withPorts (ports : PerPort PortState) :
    replaced (s.withPorts ports) o = (replaced s o).withPorts ports := by
  unfold replaced
  rw [← engineTold_withPorts]
  rfl

/-- A frame is taken in on a port by whatever has left the ports as they were. -/
theorem taken_of_ports {s t : State} (same : t.ports = s.ports) (p : Port) :
    taken t p = t.withPorts (taken s p).ports := by
  unfold taken
  rw [same]
  rfl

theorem removed_taken : removed (taken s p) o e = taken (removed s o e) p := by
  refine (removed_withPorts s o e (taken s p).ports).trans (taken_of_ports ?_ p).symm
  rw [removed, engineTold_frame]

theorem replaced_taken : replaced (taken s p) o = taken (replaced s o) p := by
  refine (replaced_withPorts s o (taken s p).ports).trans (taken_of_ports ?_ p).symm
  rw [replaced, engineTold_frame]

end

/-- The response to a request whose effect the last parts of its event end. -/
theorem tail_answered (s : State) (p : Port) (code status : Byte) (data : List Byte) :
    Tail (answered s p code status data) (answered s.finish p code status data) :=
  (answered_finish s p code status data).symm

/-! ### CANCEL (R98) -/

theorem exec_cancel {s : State} {p : Port} (ready : Ready s p) (master : p ≠ .pp) (n : Byte) :
    exec (.cancel p [n]) s =
      (let r := serveCancel n (taken s p)
       .next (answered r.state p 0x91 r.status.byte r.data)) := by
  have permitted : Command.cancel.permitted p = true := bne_iff_ne.mpr master
  rw [exec_cancel_ready p [n] s ready.1 ready.2 permitted rfl]
  rfl

/-- A request from a port that its command is not permitted from (check 2 of R169). -/
theorem takeRequest_notPermitted (s : State) (c : Command) {p : Port} (params : List Byte)
    (forbidden : c.permitted p = false) : s.takeRequest p c.code params = s.respond p c.code .notPermitted [] := by
  simp [State.takeRequest, Command.ofCode_code, forbidden]

theorem inFlight_iff (m : Motion) : m.inFlight = true ↔ m = .arming ∨ m = .armed ∨ m = .fired := by
  cases m <;> decide

/-- Settles O18: the queued order is removed whatever its source, and without one nothing is. -/
theorem cancelRemovesTheOrder : Obligations.CancelRemovesTheOrder := by
  refine ⟨fun s p n ready master => ?_, fun s n ready => ?_⟩
  · rw [exec_cancel ready master, serveCancel]
    refine ⟨fun outside => by rw [readConn_eq_none outside]; rfl, fun c number => ?_⟩
    rw [readConn_of_val number]
    dsimp only
    have found : (s.queue.orders.find? fun o => o.conn == c) = (taken s p).queuedOrder c := rfl
    rw [found]
    rcases queued : (taken s p).queuedOrder c with _ | o
    · simp only [← inFlight_iff]
      split
      · next flight => rw [if_pos (show ((taken s p).conn c).motion.inFlight = true from flight)]; rfl
      · next still => rw [if_neg (show ¬ ((taken s p).conn c).motion.inFlight = true from still)]; rfl
    · refine ⟨_, rfl, ?_⟩
      rw [removeQueued_eq_removed queued, removed_taken, sourceCode_eq]
      exact tail_answered _ p 0x91 0x00 _
  · refine (whilePowered_on ready.1 _).trans ?_
    rw [State.commandFrame_ready _ _ _ _ ready.2, takeRequest_notPermitted _ _ _ rfl]
    rfl

/-! ### REPRIORITIZE (R102) -/

theorem exec_reprioritize {s : State} {p : Port} (ready : Ready s p) (master : p ≠ .pp) (n priority : Byte) :
    exec (.reprioritize p [n, priority]) s =
      (let r := serveReprioritize n priority (taken s p)
       .next (answered r.state p 0x92 r.status.byte r.data)) := by
  have permitted : Command.reprioritize.permitted p = true := bne_iff_ne.mpr master
  rw [exec_reprioritize_ready p _ s ready.1 ready.2 permitted rfl]
  rfl

/-- A connection has a queued order when one of the queue's orders is its own. -/
theorem queuedOrder_isSome (s : State) (c : ConnId) :
    (s.queue.orders.any fun o => o.conn == c) = (s.queuedOrder c).isSome := by
  rw [Bool.eq_iff_iff, List.any_eq_true]
  exact List.find?_isSome.symm

/-- Settles O19: one field of the queued order is changed in place, or the request is refused. -/
theorem reprioritizeChangesThePriority : Obligations.ReprioritizeChangesThePriority := by
  intro s p n priority ready master
  rw [exec_reprioritize ready master, serveReprioritize]
  refine ⟨fun outside => by rw [readConn_eq_none outside]; rfl, fun c number => ?_⟩
  rw [readConn_of_val number]
  dsimp only
  split
  · rfl
  · have found : (s.queue.orders.any fun o => o.conn == c) = ((taken s p).queuedOrder c).isSome :=
      queuedOrder_isSome s c
    rw [found]
    rcases (taken s p).queuedOrder c with _ | o
    · simp only [← inFlight_iff]
      have motion : ((taken s p).conn c).motion = (s.conn c).motion := rfl
      rw [motion]
      rw [if_neg (by simp)]
      split <;> rfl
    · rw [if_pos (by simp)]
      exact ⟨_, rfl, tail_answered ((taken s p).setPriority c priority.toNat) p 0x92 0x00 []⟩

/-! ### PIN (R99, R159) -/

theorem exec_pin {s : State} {p : Port} (ready : Ready s p) (n : Byte) : exec (.pin p [n]) s =
    (let r := servePin p n (taken s p)
     .next (answered r.state p 0x98 r.status.byte r.data)) := by
  rw [exec_pin_ready p [n] s ready.1 ready.2 (by cases p <;> rfl) rfl, serve_pin]
  rfl

theorem removeBalancer_of_some {s : State} {c : ConnId} {o : Order} (queued : s.queuedOrder c = some o)
    (e : LogOutcome) : s.removeBalancer c e = if o.source = .balancer then removed s o e else s := by
  simp only [State.removeBalancer, queued, removeQueued_eq_removed queued]

theorem removed_stilled (s : State) (o : Order) (e : LogOutcome) : stilled (removed s o e) = stilled s := by
  unfold removed
  rw [engineTold_frame]
  funext c
  have written := State.setConn_conn s o.conn c { s.conn o.conn with motion := .idle }
  refine (congrArg (fun x : Connection => { x with motion := .idle }) written).trans ?_
  split
  · next same => rw [same]; rfl
  · rfl

theorem pins_of_stilled {s t : State} (same : stilled t = stilled s) (c : ConnId) :
    (t.conn c).pins = (s.conn c).pins :=
  show (stilled t c).pins = (stilled s c).pins from congrArg Connection.pins (congrFun same c)

/-- The last parts of an event change no pin set: the response to PIN shows the one that the member joined. -/
theorem tail_pinned {s : State} {c : ConnId} {pins : PinSet} (joined : (s.conn c).pins = pins) (p : Port) :
    Tail (answered s p 0x98 0x00 [pinsCode pins]) (answered s.finish p 0x98 0x00 [(s.finish.conn c).pins.byte]) := by
  rw [pins_of_stilled (finish_stilled s) c, joined, pinsCode_eq]
  exact tail_answered s p 0x98 0x00 _

/-- Settles O21: a member that joins withdraws the connection's queued balancer order, and a standing one nothing. -/
theorem pinJoinsAndWithdraws : Obligations.PinJoinsAndWithdraws := by
  intro s p n ready
  rw [exec_pin ready, servePin]
  refine ⟨fun outside => by rw [readConn_eq_none outside]; rfl, fun c number => ?_⟩
  rw [readConn_of_val number]
  intro x pins u
  have used : (taken s p).used c = false ↔ (s.config c).kind = .unused := bne_eq_false_iff_eq
  have member : ((taken s p).conn c).pins = x.pins := rfl
  have pinned : (taken s p).setPin c p true = taken u p := rfl
  have joined : ((taken u p).conn c).pins = pins :=
    congrArg Connection.pins (State.setConn_conn_self (taken s p) c { x with pins := pins })
  simp only [used, member, pinned]
  split
  · rfl
  · split
    · rw [pinsCode_eq]; rfl
    · refine ⟨_, rfl, ?_⟩
      have found : (s.queue.orders.find? fun o => o.conn == c) = (taken u p).queuedOrder c := rfl
      rw [found]
      rcases queued : (taken u p).queuedOrder c with _ | o
      · rw [removeBalancer_of_none queued]
        exact tail_pinned joined p
      · rw [removeBalancer_of_some queued]
        dsimp only
        split
        · rw [← removed_taken]
          exact tail_pinned ((pins_of_stilled (removed_stilled _ o .withdrawn) c).trans joined) p
        · exact tail_pinned joined p

end Sys2Proof.Claims

/-!
PROOFS. MOVE (R91 to R94): its ten checks in their order, the order that a full queue evicts, and the three ways in
which a MOVE is admitted.
-/

namespace Sys2Proof.Claims

open Sys2Proof.Machine

/-! ### The first check that fails -/

/-- The status of the first check of a list that fails. -/
def firstFailure (checks : List (Bool × Byte)) : Option Byte := (checks.find? (·.1)).map (·.2)

theorem firstFailure_nil : firstFailure [] = none := rfl

theorem firstFailure_cons (fails : Bool) (status : Byte) (rest : List (Bool × Byte)) :
    firstFailure ((fails, status) :: rest) = if fails = true then some status else firstFailure rest := by
  cases fails <;> rfl

theorem firstFailure_append (before after : List (Bool × Byte)) :
    firstFailure (before ++ after) = (firstFailure before).or (firstFailure after) := by
  unfold firstFailure
  rw [List.find?_append, Option.map_or]

/-- The checks of the connection and the target, 2 to 8 of R91. -/
def standingChecks (s : State) (p : Port) (c : ConnId) (target priority : Byte) : List (Bool × Byte) :=
  (moveChecks s p c target priority).take 7

/-- The checks of the queue, 9 and 10 of R91. -/
def placingChecks (s : State) (p : Port) (c : ConnId) (target priority : Byte) : List (Bool × Byte) :=
  (moveChecks s p c target priority).drop 7

theorem firstFailure_moveChecks (s : State) (p : Port) (c : ConnId) (target priority : Byte) :
    firstFailure (moveChecks s p c target priority) =
      (firstFailure (standingChecks s p c target priority)).or
        (firstFailure (placingChecks s p c target priority)) := by
  rw [← firstFailure_append, standingChecks, placingChecks, List.take_append_drop]

/-! ### Checks 2 to 8 of R91 -/

section
variable {s : State} {p : Port} {c : ConnId} {target priority n : Byte} {life : Half}

/-- A target that names no phase fails check 3, if not check 2. -/
theorem standingChecks_unnamed (unnamed : phaseNamed target = none) :
    firstFailure (standingChecks s p c target priority) =
      some (if (s.config c).kind ≠ .movable then Status.notMovable else .badValue).byte := by
  simp only [standingChecks, moveChecks, unnamed, List.take_succ_cons, firstFailure_cons, bne_iff_ne, Bool.not_false,
    Bool.true_or, if_true]
  split <;> rfl

/-- With a named target the checks are those of the meaning. -/
theorem standingChecks_named {q : Phase} (named : phaseNamed target = some q) :
    firstFailure (standingChecks s p c target priority) =
      (s.moveRefusal p c q priority.toNat).map Status.byte := by
  have same : ((s.conn c).recordedPhase.isSome && (s.conn c).recordedPhase == some q) = true ↔
      (s.conn c).recordedPhase = some q := by
    rcases (s.conn c).recordedPhase with _ | _ <;> simp
  have lost : ∀ v : Presence, v.lost = true ↔ v = .absent ∨ v = .mismatch := fun v => by cases v <;> decide
  have pinned : (s.conn c).pins.otherThan p = pinnedByOther (s.conn c).pins p := rfl
  simp only [standingChecks, moveChecks, named, List.take_succ_cons, List.take_zero, firstFailure_cons,
    firstFailure_nil, State.moveRefusal, same, lost, inFlight_iff, pinned, bne_iff_ne, beq_iff_eq, Bool.or_eq_true,
    Bool.not_eq_true', decide_eq_true_eq, or_assoc, apply_ite (Option.map Status.byte), Option.map_some,
    Option.map_none]
  rfl

theorem serveMove_unnamed (number : n.toNat = c.val) (unnamed : phaseNamed target = none) :
    serveMove p n target priority life s =
      s.refuse (if (s.config c).kind ≠ .movable then .notMovable else .badValue) := by
  rw [phaseNamed_eq] at unnamed
  simp only [serveMove, readConn_of_val number, unnamed]
  split <;> rfl

/-- With a named target the first of checks 2 to 8 that fails refuses the MOVE, and the queue decides when none does. -/
theorem serveMove_named {q : Phase} (number : n.toNat = c.val) (named : phaseNamed target = some q) :
    serveMove p n target priority life s =
      match s.moveRefusal p c q priority.toNat with
      | some status => s.refuse status
      | none => s.placeMove p c q priority.toNat life.toNat := by
  rw [phaseNamed_eq] at named
  simp only [serveMove, readConn_of_val number, named]
  split
  · next fixed => simp only [State.moveRefusal, if_pos fixed]
  · rfl

end

/-! ### The order that a full queue evicts (R93) -/

/-- What decides an eviction: the lowest priority, then the highest connection number. -/
def evictionRank (o : Order) : ℕ ×ₗ ConnIdᵒᵈ := toLex (o.priority, OrderDual.toDual o.conn)

theorem evictionRank_lt_iff (p q : Order) : evictionRank p < evictionRank q ↔
    p.priority < q.priority ∨ (p.priority = q.priority ∧ q.conn < p.conn) := by
  simp [evictionRank, Prod.Lex.toLex_lt_toLex]

theorem evictionRank_le_iff (p q : Order) : evictionRank p ≤ evictionRank q ↔
    p.priority < q.priority ∨ p.priority = q.priority ∧ q.conn ≤ p.conn := by
  simp [evictionRank, Prod.Lex.toLex_le_toLex]

/-- The eviction takes the queued balancer order of the least rank. -/
theorem evictee_eq_argmin (s : State) :
    s.evictee = (s.queue.orders.filter fun o => o.source == .balancer).argmin evictionRank := by
  have fold : ∀ (rest : List Order) (worst : Order),
      some (rest.foldl (fun worst p => if p.priority < worst.priority ∨ (p.priority = worst.priority
          ∧ worst.conn < p.conn) then p else worst) worst)
        = rest.foldl (List.argAux fun b c => evictionRank b < evictionRank c) (some worst) := by
    intro rest
    induction rest with
    | nil => exact fun _ => rfl
    | cons o rest ih =>
      intro worst
      rw [List.foldl_cons, List.foldl_cons, ih]
      simp only [List.argAux, evictionRank_lt_iff, apply_ite some]
  unfold State.evictee
  split
  · next none => rw [none]; rfl
  · next o rest listed => rw [listed]; exact fold rest o

theorem evictee_evicts {s : State} {e : Order} (evicted : s.evictee = some e) : Evicts s e := by
  rw [evictee_eq_argmin] at evicted
  obtain ⟨queued, source⟩ := List.mem_filter.mp (List.argmin_mem evicted)
  refine ⟨queued, beq_iff_eq.mp source, fun q member balancer => (evictionRank_le_iff e q).mp ?_⟩
  have other : q ∈ s.queue.orders.filter fun o => o.source == .balancer :=
    List.mem_filter.mpr ⟨member, beq_iff_eq.mpr balancer⟩
  exact List.le_of_mem_argmin other evicted

/-- There is an order to evict when a balancer order is queued. -/
theorem evictee_isSome (s : State) :
    s.evictee.isSome = s.queue.orders.any fun o => o.source == .balancer := by
  rw [Bool.eq_iff_iff, evictee_eq_argmin, Option.isSome_iff_ne_none, Ne, List.argmin_eq_none, List.any_eq_true]
  simp [List.filter_eq_nil_iff]

/-! ### Checks 9 and 10 of R91 -/

section
variable {s : State} (p : Port) {c : ConnId} (target priority : Byte)

/-- A queued order of the connection stands against a MOVE that it does not yield to (R92). -/
theorem placingChecks_queued {o : Order} (queued : s.queuedOrder c = some o) :
    firstFailure (placingChecks s p c target priority) =
      if o.yieldsTo priority.toNat = true then none else some 0x26 := by
  have any : (s.queue.orders.any fun o => o.conn == c) = true := by rw [queuedOrder_isSome, queued]; rfl
  have found : (s.queue.orders.find? fun o => o.conn == c) = some o := queued
  simp only [placingChecks, moveChecks, List.drop_succ_cons, List.drop_zero, firstFailure_cons, firstFailure_nil, any,
    found, Option.any_some]
  by_cases yields : o.yieldsTo priority.toNat = true
  · have keeps : (o.source != .balancer && decide (priority.toNat < o.priority)) = false := by
      simp only [Order.yieldsTo, Bool.or_eq_true, beq_iff_eq, decide_eq_true_eq] at yields
      simp only [Bool.and_eq_false_iff, bne_eq_false_iff_eq, decide_eq_false_iff_not, Nat.not_lt]
      exact yields
    rw [if_pos yields, keeps]
    rfl
  · have stands : (o.source != .balancer && decide (priority.toNat < o.priority)) = true := by
      simpa [Order.yieldsTo, not_or] using yields
    rw [if_neg yields, if_pos stands]

/-- Without one the queue takes a MOVE that it has room for, or evicts an order for (R93). -/
theorem placingChecks_unqueued (unqueued : s.queuedOrder c = none) :
    firstFailure (placingChecks s p c target priority) =
      if s.occupancy < Config.queueRoom ∨ s.evictee.isSome = true then none else some 0x27 := by
  have any : (s.queue.orders.any fun o => o.conn == c) = false := by rw [queuedOrder_isSome, unqueued]; rfl
  have found : (s.queue.orders.find? fun o => o.conn == c) = none := unqueued
  simp only [placingChecks, moveChecks, List.drop_succ_cons, List.drop_zero, firstFailure_cons, firstFailure_nil, any,
    found, Option.any_none, evictee_isSome, State.occupancy, Config.queueRoom]
  by_cases room : s.queue.orders.length + s.unfiredContexts < 16
  · simp [room]
  · rcases s.queue.orders.any fun o => o.source == .balancer <;> simp [room, Nat.not_lt.mp room]

/-! ### The ten checks together -/

theorem placeMove_refused {q : Phase} {life : Nat} {status : Byte}
    (failed : firstFailure (placingChecks s p c target priority) = some status) :
    ∃ st : Status, st.byte = status ∧ s.placeMove p c q priority.toNat life = s.refuse st := by
  unfold State.placeMove
  rcases queued : s.queuedOrder c with _ | o
  · rw [placingChecks_unqueued p target priority queued] at failed
    split at failed
    · cases failed
    · next full =>
      obtain ⟨noRoom, none⟩ := not_or.mp full
      refine ⟨.queueFull, Option.some.inj failed, ?_⟩
      dsimp only
      rw [if_neg noRoom, Option.not_isSome_iff_eq_none.mp none]
  · rw [placingChecks_queued p target priority queued] at failed
    split at failed
    · cases failed
    · next stands => exact ⟨.busy, Option.some.inj failed, if_neg stands⟩

/-- The first check that fails is the status of the refusal, and nothing else is done. -/
theorem serveMove_refused {n : Byte} {life : Half} {status : Byte} (number : n.toNat = c.val)
    (failed : firstFailure (moveChecks s p c target priority) = some status) :
    ∃ st : Status, st.byte = status ∧ serveMove p n target priority life s = s.refuse st := by
  rw [firstFailure_moveChecks] at failed
  rcases named : phaseNamed target with _ | q
  · rw [standingChecks_unnamed named] at failed
    exact ⟨_, Option.some.inj failed, serveMove_unnamed number named⟩
  · rw [standingChecks_named named] at failed
    rw [serveMove_named number named]
    rcases refused : s.moveRefusal p c q priority.toNat with _ | st
    · rw [refused] at failed
      exact placeMove_refused p target priority failed
    · rw [refused] at failed
      exact ⟨st, Option.some.inj failed, rfl⟩

/-- A MOVE that passes checks 2 to 8 comes to the queue, whose checks it passes too. -/
theorem serveMove_passed {n : Byte} {life : Half} {q : Phase} (number : n.toNat = c.val)
    (named : phaseNamed target = some q) (passed : firstFailure (moveChecks s p c target priority) = none) :
    serveMove p n target priority life s = s.placeMove p c q priority.toNat life.toNat
      ∧ firstFailure (placingChecks s p c target priority) = none := by
  rw [firstFailure_moveChecks, Option.or_eq_none_iff, standingChecks_named named] at passed
  obtain ⟨standing, placing⟩ := passed
  rw [serveMove_named number named, Option.map_eq_none_iff.mp standing]
  exact ⟨rfl, placing⟩

end

/-! ### The request -/

theorem exec_move {s : State} {p : Port} (ready : Ready s p) (master : p ≠ .pp)
    (n target priority high low : Byte) : exec (.move p [n, target, priority, high, low]) s =
      (let r := serveMove p n target priority (fromTwo high low) (taken s p)
       .next (answered r.state p 0x90 r.status.byte r.data)) := by
  have permitted : Command.move.permitted p = true := bne_iff_ne.mpr master
  rw [exec_move_ready p _ s ready.1 ready.2 permitted rfl, fromTwo_eq]
  rfl

/-- Settles O16: the refusal is the first check that fails, a number above 63 before all of them. -/
theorem moveChecksInOrder : Obligations.MoveChecksInOrder := by
  intro s p n target priority high low ready master
  rw [exec_move ready master]
  refine ⟨fun outside => ?_, fun c number check failed => ?_⟩
  · rw [serveMove, readConn_eq_none outside]
    rfl
  · have failure : firstFailure (moveChecks s p c target priority) = some check.2 := by rw [firstFailure, failed]; rfl
    obtain ⟨st, byte, refused⟩ := serveMove_refused (s := taken s p) p target priority number failure
    rw [refused, ← byte]
    rfl

/-! ### The admission (R94) -/

theorem grantedLife_eq (s : State) (lifetime : Nat) : s.grantedLife lifetime = (moveLife s lifetime).1 := by
  unfold State.grantedLife moveLife
  split_ifs <;> dsimp only <;> omega

theorem lifetimeClamped_eq (s : State) (lifetime : Nat) : lifetimeClamped lifetime = (moveLife s lifetime).2 := by
  unfold lifetimeClamped moveLife
  split_ifs <;> simp [*]

theorem enqueue_eq_joined (s : State) (p : Port) (c : ConnId) (target : Phase) (priority life : Nat) :
    s.enqueue c target (sourceOf p) priority life none none = joined s (movedOrder s p c target priority life) := by
  cases p <;> rfl

/-- An admitted MOVE is answered with how it was admitted and the life given; the last parts of its event follow. -/
theorem tail_admitMove (s : State) (p : Port) (c : ConnId) (target : Phase) (priority lifetime : Nat)
    (how evicted : Byte) :
    Tail (answered (joined s (movedOrder s p c target priority (moveLife s lifetime).1)) p 0x90
        (if (moveLife s lifetime).2 then 0x01 else 0x00) ([how, evicted] ++ twoOf (moveLife s lifetime).1))
      (let r := s.admitMove p c target priority lifetime how evicted
       answered r.state p 0x90 r.status.byte r.data) := by
  simp only [State.admitMove, grantedLife_eq, lifetimeClamped_eq s, enqueue_eq_joined, twoOf_eq, apply_ite Status.byte]
  exact tail_answered _ p 0x90 _ _

/-- What an order's end leaves of the fields that an admission reads: the part time, the admissions, the settings. -/
theorem admission_of_frame {s t : State} (time : t.partTime = s.partTime)
    (admissions : t.queue.admissions = s.queue.admissions) (settings : t.settings = s.settings) :
    (∀ p c target priority life, movedOrder t p c target priority life = movedOrder s p c target priority life)
      ∧ ∀ lifetime, moveLife t lifetime = moveLife s lifetime := by
  refine ⟨fun _ _ _ _ _ => ?_, fun lifetime => ?_⟩
  · simp only [movedOrder, time, admissions]
  · simp only [moveLife, State.setting_congr settings]

/-- The admission from a state that an order's end has led to. -/
theorem tail_admitMove_of_frame {s t : State} (time : t.partTime = s.partTime)
    (admissions : t.queue.admissions = s.queue.admissions) (settings : t.settings = s.settings) (p : Port) (c : ConnId)
    (target : Phase) (priority lifetime : Nat) (how evicted : Byte) :
    Tail (answered (taken (joined t (movedOrder s p c target priority (moveLife s lifetime).1)) p) p 0x90
        (if (moveLife s lifetime).2 then 0x01 else 0x00) ([how, evicted] ++ twoOf (moveLife s lifetime).1))
      (let r := (taken t p).admitMove p c target priority lifetime how evicted
       answered r.state p 0x90 r.status.byte r.data) := by
  obtain ⟨order, life⟩ := admission_of_frame (s := s) (t := taken t p) time admissions settings
  have admitted := tail_admitMove (taken t p) p c target priority lifetime how evicted
  rw [order, life] at admitted
  exact admitted

theorem replaceOrder_eq_replaced (s : State) (o : Order) : s.replaceOrder o = replaced s o := by
  rw [State.replaceOrder, orderEnded_eq_engineTold]
  rfl

theorem replaced_frame (s : State) (o : Order) : (replaced s o).partTime = s.partTime
    ∧ (replaced s o).queue.admissions = s.queue.admissions ∧ (replaced s o).settings = s.settings := by
  rw [replaced, engineTold_frame]
  exact ⟨rfl, rfl, rfl⟩

theorem removed_frame (s : State) (o : Order) (e : LogOutcome) : (removed s o e).partTime = s.partTime
    ∧ (removed s o e).queue.admissions = s.queue.admissions ∧ (removed s o e).settings = s.settings := by
  rw [removed, engineTold_frame]
  exact ⟨rfl, rfl, rfl⟩

/-! ### The three admissions (R92, R93) -/

section
variable {s : State} (p : Port) {c : ConnId} (target : Phase) {priority lifetime : Nat}

/-- NEW: the queue has room. -/
theorem placeMove_new (unqueued : s.queuedOrder c = none) (room : s.occupancy < Config.queueRoom) :
    s.placeMove p c target priority lifetime = s.admitMove p c target priority lifetime 0 absentByte := by
  rw [State.placeMove, unqueued]
  exact if_pos room

/-- REPLACED: the connection's queued order yields. -/
theorem placeMove_replaces {o : Order} (queued : s.queuedOrder c = some o) (yields : o.yieldsTo priority = true) :
    s.placeMove p c target priority lifetime =
      (replaced s o).admitMove p c target priority lifetime 1 absentByte := by
  rw [State.placeMove, queued, ← replaceOrder_eq_replaced]
  exact if_pos yields

/-- EVICTED: a full queue gives up the order of the least rank. -/
theorem placeMove_evicts {e : Order} (unqueued : s.queuedOrder c = none) (full : ¬ s.occupancy < Config.queueRoom)
    (evicted : s.evictee = some e) (own : s.queuedOrder e.conn = some e) :
    s.placeMove p c target priority lifetime =
      (removed s e .evicted).admitMove p c target priority lifetime 2 (byteOf e.conn.val) := by
  rw [State.placeMove, unqueued, evicted, ← removeQueued_eq_removed own]
  exact if_neg full

end

/-- Settles O17: the queue decides between REPLACED, NEW and EVICTED, and the order joins its end. -/
theorem moveIsAdmitted : Obligations.MoveIsAdmitted := by
  intro s p c n target priority high low q ready master number named passed one life order answer
  refine ⟨_, exec_move ready master n target priority high low, ?_⟩
  have passes : firstFailure (moveChecks s p c target priority) = none := by rw [firstFailure, passed]; rfl
  obtain ⟨placed, fits⟩ := serveMove_passed (s := taken s p) (life := fromTwo high low) p target priority number named
    passes
  rw [placed]
  have found : (s.queue.orders.find? fun o => o.conn == c) = (taken s p).queuedOrder c := rfl
  rw [found]
  rcases queued : (taken s p).queuedOrder c with _ | o
  · rw [placingChecks_unqueued p target priority queued] at fits
    dsimp only
    split
    · next room =>
      rw [placeMove_new p q queued room]
      exact tail_admitMove_of_frame rfl rfl rfl p c q _ _ 0 0xFF
    · next full =>
      have full : ¬ (taken s p).occupancy < Config.queueRoom := full
      rcases evicted : (taken s p).evictee with _ | e
      · simp [evicted, full] at fits
      · have evicts : Evicts s e := evictee_evicts (s := taken s p) evicted
        have own : (taken s p).queuedOrder e.conn = some e := queuedOrder_of_mem (s := s) one evicts.1
        obtain ⟨time, admissions, settings⟩ := removed_frame s e .evicted
        refine ⟨e, evicts, ?_⟩
        rw [placeMove_evicts p q queued full evicted own, removed_taken]
        exact tail_admitMove_of_frame time admissions settings p c q _ _ 2 (byteOf e.conn.val)
  · rw [placingChecks_queued p target priority queued] at fits
    obtain ⟨time, admissions, settings⟩ := replaced_frame s o
    have yields : o.yieldsTo priority.toNat = true := by
      by_contra stands
      rw [if_neg stands] at fits
      cases fits
    rw [placeMove_replaces p q queued yields, replaced_taken]
    exact tail_admitMove_of_frame time admissions settings p c q _ _ 1 0xFF

end Sys2Proof.Claims

/-!
PROOFS. Replies and lapses of requests that no transfer in flight awaits (R119 to R123, R128, R141): what the presence
machine leaves, and what becomes of the request.
-/

namespace Sys2Proof.Claims

open Sys2Proof.Machine

/-! ### The presence machine on a good reply (R120 to R123) -/

/-- Entry to MISMATCH, and the serial of a reply in MISMATCH, are what R123 says of a reply taken as a mismatch. -/
theorem enterMismatch_eq_estranged {s : State} {c : ConnId} (known : (s.conn c).presence ≠ .mismatch) (serial : Word) :
    s.enterMismatch c serial = estranged s c serial := by
  rw [estranged, if_neg known]
  rfl

theorem presenceReply_strange {s : State} {c : ConnId} {serial : Word} (strange : recognised s c serial = none) :
    s.presenceReply c serial = (estranged s c serial, true) := by
  unfold recognised at strange
  unfold State.presenceReply
  dsimp only at strange ⊢
  rcases presence : (s.conn c).presence <;> simp only [presence] at strange ⊢
  case absent =>
    split at strange
    · next unexpected =>
      rw [if_neg (by tauto), enterMismatch_eq_estranged (by simp [presence])]
    · cases strange
  case mismatch =>
    rw [estranged, if_pos presence]
    by_cases expected : (s.config c).expectedSerial = 0
    · simp only [if_pos expected]
      rfl
    · simp only [if_neg expected]
      rfl
  case lapsing =>
    split at strange
    · next other => rw [if_neg other, enterMismatch_eq_estranged (by simp [presence])]
    · split at strange <;> cases strange
  all_goals
    split at strange
    · cases strange
    · next other => rw [if_neg other, enterMismatch_eq_estranged (by simp [presence])]

/-- The state that the presence machine leaves: the recognised record, or a mismatch. -/
def metBy (s : State) (c : ConnId) (serial : Word) : State :=
  match recognised s c serial with
  | some y => withConn s c y
  | none => estranged s c serial

theorem presenceReply_eq (s : State) (c : ConnId) (serial : Word) :
    s.presenceReply c serial = (metBy s c serial, (recognised s c serial).isNone) := by
  unfold metBy
  rcases seen : recognised s c serial with _ | y
  · exact presenceReply_strange seen
  · exact presenceReply_recognised seen

theorem metBy_recognised {s : State} {c : ConnId} {serial : Word} {y : Connection}
    (known : recognised s c serial = some y) : metBy s c serial = withConn s c y := by
  rw [metBy, known]

theorem metBy_strange {s : State} {c : ConnId} {serial : Word} (strange : recognised s c serial = none) :
    metBy s c serial = estranged s c serial := by
  rw [metBy, strange]

/-- The presence machine writes the connection's record and the alarm sets alone. -/
theorem metBy_frame (s : State) (c : ConnId) (serial : Word) : metBy s c serial =
    { s with conns := (metBy s c serial).conns, alarms := (metBy s c serial).alarms } := by
  unfold metBy estranged
  split
  · rfl
  · dsimp only
    split <;> rfl

/-- It reads no request slot and no outstanding request. -/
theorem metBy_withBus (s : State) (b : Bus) (c : ConnId) (serial : Word) :
    metBy (s.withBus b) c serial = (metBy s c serial).withBus b := by
  have seen : recognised (s.withBus b) c serial = recognised s c serial := rfl
  have presence : (s.withBus b).conn c = s.conn c := rfl
  unfold metBy estranged
  rw [seen, presence]
  split
  · rfl
  · dsimp only
    split <;> rfl

/-! ### The end of a request (R113, R114, R117) -/

theorem contextNumbered_congr {s t : State} (same : t.transfers = s.transfers) (n : Nat) :
    t.contextNumbered n = s.contextNumbered n := by
  simp only [State.contextNumbered, State.inFlight, State.context_congr same]

theorem endSurveyPoll_of_bus {s t : State} (same : t.bus = s.bus) :
    t.endSurveyPoll = t.withBus s.endSurveyPoll.bus := by
  unfold State.endSurveyPoll
  rw [same]
  split
  · rfl
  · rw [← same]
    rfl

/-- What a survey's poll leaves of the bus at its end, and any other request. -/
theorem ended_freed {s t : State} (o : Outstanding) (bus : t.bus = s.endOutstanding.bus) :
    (if o.raiser = .survey then t.endSurveyPoll else t) = t.withBus (freed s o).bus := by
  rw [freed_eq]
  split
  · exact endSurveyPoll_of_bus bus
  · rw [← bus]
    rfl

/-- A request that no transfer in flight raised is handed back to no context, whatever the record has become. -/
theorem handReply_freed {s t : State} {o : Outstanding} (none : RaisedByNoContext s o)
    (transfers : t.transfers = s.transfers) (bus : t.bus = s.endOutstanding.bus) (r : Reply) (mismatch : Bool) :
    t.handReply o r mismatch = t.withBus (freed s o).bus := by
  have unraised : RaisedByNoContext t o := fun n raiser => (contextNumbered_congr transfers n).trans (none n raiser)
  rw [handReply_noContext unraised]
  exact ended_freed o bus

/-! ### A good reply (R119) -/

/-- A frame with the outstanding request's address, tag and kind is its good reply (R113). -/
theorem busReply_answered {s : State} {o : Outstanding} {r : Reply} (outstanding : s.bus.outstanding = some o)
    (answers : r.answers o.request = true) (serial : Word) :
    s.busReply (unitAddress o.conn) o.tag serial r = s.goodReply o serial r := by
  have passes : o.answeredBy (unitAddress o.conn) o.tag r = true := by simp [Outstanding.answeredBy, answers]
  unfold State.busReply
  rw [outstanding]
  exact if_pos passes

/-- A good reply of a used connection: presence, the record, the raiser, and the removals. -/
theorem goodReply_eq {s : State} {o : Outstanding} (used : (s.config o.conn).kind ≠ .unused) (serial : Word)
    (r : Reply) : s.goodReply o serial r =
      (let u := metBy s.endOutstanding o.conn serial
       let mismatch := (recognised s o.conn serial).isNone
       let v := if mismatch then u else u.takeContent o.conn r
       (withRemoval (v.handReply o r mismatch) o.conn (s.conn o.conn)).finishTransfer) := by
  have inUse : s.endOutstanding.used o.conn = true := (bne_iff_ne ..).mpr used
  unfold State.goodReply
  dsimp only
  rw [if_pos inUse, presenceReply_eq, attachRemovals_eq]
  rfl

/-- A reply that writes nothing of its own into the record: as a mismatch every one, recognised all but two. -/
def Plain (s : State) (o : Outstanding) (serial : Word) (r : Reply) : Prop :=
  recognised s o.conn serial = none ∨ ∀ t : State, t.takeContent o.conn r = t

theorem goodReply_plain {s : State} {o : Outstanding} {serial : Word} {r : Reply}
    (used : (s.config o.conn).kind ≠ .unused) (plain : Plain s o serial r) : s.goodReply o serial r =
      (withRemoval ((metBy s.endOutstanding o.conn serial).handReply o r (recognised s o.conn serial).isNone) o.conn
        (s.conn o.conn)).finishTransfer := by
  rw [goodReply_eq used]
  rcases plain with strange | content
  · simp only [strange, Option.isNone_none, if_true]
  · simp only [content, ite_self]

/-! ### Replies that no transfer in flight awaits -/

section
variable {s : State} {o : Outstanding} {serial : Word} {i : Instr} {r : Reply}

/-- A plain reply ends its request and feeds presence alone. -/
theorem reply_plain (on : s.powered = true) (outstanding : s.bus.outstanding = some o) (none : RaisedByNoContext s o)
    (used : (s.config o.conn).kind ≠ .unused)
    (row : exec i s = s.whilePowered (s.busReply (unitAddress o.conn) o.tag serial r))
    (answers : r.answers o.request = true) (plain : Plain s o serial r) :
    ∃ t, exec i s = .next t
      ∧ TransferTail (withRemoval (metBy (freed s o) o.conn serial) o.conn (s.conn o.conn)) t := by
  refine ⟨_, row.trans (whilePowered_on on _), ?_⟩
  have frame := metBy_frame s.endOutstanding o.conn serial
  have handed := handReply_freed none (t := metBy s.endOutstanding o.conn serial) (by rw [frame]; rfl) (by rw [frame]) r
    (recognised s o.conn serial).isNone
  rw [← metBy_withBus] at handed
  rw [busReply_answered outstanding answers, goodReply_plain used plain, handed]
  rfl

/-- A recognised refusal with LOCAL adds LOCAL to the record that presence leaves (R127, R135). -/
theorem reply_local {y : Connection} (on : s.powered = true) (outstanding : s.bus.outstanding = some o)
    (none : RaisedByNoContext s o) (used : (s.config o.conn).kind ≠ .unused)
    (known : recognised s o.conn serial = some y)
    (row : exec i s = s.whilePowered (s.busReply (unitAddress o.conn) o.tag serial (.armRefused .localSwitch)))
    (answers : (Reply.armRefused .localSwitch).answers o.request = true) :
    let switched : Connection := { y with pins := { y.pins with localSwitch := true } }
    ∃ t, exec i s = .next t ∧ TransferTail (withRemoval (withConn (freed s o) o.conn switched) o.conn (s.conn o.conn)) t := by
  refine ⟨_, row.trans (whilePowered_on on _), ?_⟩
  have met : metBy s.endOutstanding o.conn serial = s.endOutstanding.setConn o.conn y :=
    metBy_recognised (s := s.endOutstanding) known
  have content : (s.endOutstanding.setConn o.conn y).takeContent o.conn (.armRefused .localSwitch) =
      s.endOutstanding.setConn o.conn { y with pins := { y.pins with localSwitch := true } } :=
    setConn_modConn s.endOutstanding o.conn y fun x => { x with pins := { x.pins with localSwitch := true } }
  have handed := handReply_freed none (t := s.endOutstanding.setConn o.conn
    { y with pins := { y.pins with localSwitch := true } }) rfl rfl (.armRefused .localSwitch) false
  rw [busReply_answered outstanding answers, goodReply_eq used, met, known]
  dsimp only [Option.isNone_some]
  rw [if_neg Bool.false_ne_true, content, handed]
  rfl

end

/-- Settles O45: every reply but a recognised poll reply is plain, or a refusal with LOCAL. -/
theorem repliesFeedPresence : Obligations.RepliesFeedPresence := by
  intro s o serial r on outstanding none used gives armed refusal firing notArmed idle
  have plainly : ∀ {i : Instr} {reply : Reply},
      exec i s = s.whilePowered (s.busReply (unitAddress o.conn) o.tag serial reply) →
      reply.answers o.request = true → Plain s o serial reply → gives i (metBy (freed s o) o.conn serial) :=
    fun row answers plain => reply_plain on outstanding none used row answers plain
  refine ⟨?_, ?_⟩
  · intro y known seen
    have met : metBy (freed s o) o.conn serial = seen := metBy_recognised (s := freed s o) known
    rw [met] at plainly
    refine ⟨fun request => ?_, fun request => ⟨?_, ?_⟩, fun q dead hold request => ⟨?_, ?_, ?_, ?_⟩⟩
    · exact plainly rfl (by rw [request]; rfl) (.inr fun _ => rfl)
    · exact plainly rfl (by rw [request]; rfl) (.inr fun _ => rfl)
    · exact plainly rfl (by rw [request]; rfl) (.inr fun _ => rfl)
    · exact plainly rfl (by rw [request]; rfl) (.inr fun _ => rfl)
    · exact plainly rfl (by rw [request]; rfl) (.inr fun _ => rfl)
    · exact plainly rfl (by rw [request]; rfl) (.inr fun _ => rfl)
    · exact reply_local on outstanding none used known rfl (by rw [request]; rfl)
  · intro strange stranger
    have met : metBy (freed s o) o.conn serial = stranger := metBy_strange (s := freed s o) strange
    rw [met] at plainly
    refine ⟨fun request => ?_, fun request => ?_, fun request => ⟨?_, ?_⟩, fun q dead hold request =>
      ⟨?_, fun reason => ?_⟩⟩
    all_goals exact plainly rfl (by rw [request]; rfl) (.inl strange)

/-! ### Lapses (R119, R122, R141) -/

/-- The presence machine on a lapse is R122. -/
theorem presenceLapse_eq_lapsed (s : State) (c : ConnId) : s.presenceLapse c = lapsed s c := by
  unfold State.presenceLapse lapsed
  dsimp only
  cases presence : (s.conn c).presence
  case lapsing =>
    dsimp only
    by_cases limit : (s.conn c).lapseCount + 1 < s.setting .lapseLimit
    · rw [if_pos limit, if_neg (Nat.not_le.mpr limit)]
      rfl
    · rw [if_neg limit, if_pos (Nat.not_lt.mp limit)]
      unfold State.raiseIf
      by_cases present : (s.conn c).beforeLapse = some .present
      · rw [if_pos (beq_iff_eq.mpr present), if_pos present]
        rfl
      · rw [if_neg (mt beq_iff_eq.mp present), if_neg present]
        rfl
  all_goals rfl

/-- A lapse is one for presence whatever the bus holds, and leaves the bus. -/
theorem lapsed_withBus (s : State) (b : Bus) (c : ConnId) : lapsed (s.withBus b) c = (lapsed s c).withBus b := by
  have conn : (s.withBus b).conn c = s.conn c := rfl
  have limit : (s.withBus b).setting .lapseLimit = s.setting .lapseLimit := rfl
  unfold lapsed
  rw [conn, limit]
  dsimp only
  split
  · rfl
  · rfl
  · split <;> rfl
  · rfl
  · rfl

theorem lapsed_frame (s : State) (c : ConnId) : lapsed s c =
    { s with conns := (lapsed s c).conns, alarms := (lapsed s c).alarms } := by
  unfold lapsed
  dsimp only
  split
  · rfl
  · rfl
  · split <;> rfl
  · rfl
  · rfl

/-- The lapse of a confirm poll, or of a request that no transfer in flight raised, acts on no context. -/
theorem handLapse_freed {s t : State} {o : Outstanding} (apart : RaisedByNoContext s o ∨ o.request = .poll)
    (transfers : t.transfers = s.transfers) (bus : t.bus = s.endOutstanding.bus) :
    t.handLapse o = t.withBus (freed s o).bus := by
  rw [← ended_freed o bus]
  unfold State.handLapse
  rcases raiser : o.raiser with n | _ | _ | _
  · dsimp only
    rw [if_neg (by simp), contextNumbered_congr transfers]
    rcases apart with none | poll
    · rw [none n raiser]
    · rw [poll]
      split <;> rfl
  · simp
  · simp
  · simp

/-- The reply timeout of an outstanding request of a used connection. -/
theorem lapseOutstanding_used {s : State} {o : Outstanding} (used : (s.config o.conn).kind ≠ .unused) :
    s.lapseOutstanding o =
      (withRemoval ((lapsed s.endOutstanding o.conn).handLapse o) o.conn (s.conn o.conn)).finishTransfer := by
  have inUse : s.endOutstanding.used o.conn = true := (bne_iff_ne ..).mpr used
  unfold State.lapseOutstanding
  dsimp only
  rw [if_pos inUse, presenceLapse_eq_lapsed, attachRemovals_eq]
  rfl

theorem lapseOutstanding_unused {s : State} {o : Outstanding} (unused : (s.config o.conn).kind = .unused) :
    s.lapseOutstanding o = (freed s o).finishTransfer := by
  have notUsed : ¬ s.endOutstanding.used o.conn = true := fun used => (bne_iff_ne ..).mp used unused
  unfold State.lapseOutstanding
  dsimp only
  rw [if_neg notUsed, freed_eq]

/-- Settles O49: such a lapse is one for presence, and may remove the queued balancer order. -/
theorem lapsesFeedPresence : Obligations.LapsesFeedPresence := by
  intro s on
  refine ⟨fun none => ?_, fun o outstanding apart => ⟨s.lapseOutstanding o, ?_, ?_⟩⟩
  · show execLapse s = _
    rw [execLapse, none]
  · show execLapse s = _
    rw [execLapse, outstanding]
    exact whilePowered_on on _
  · have frame := lapsed_frame s.endOutstanding o.conn
    have handed := handLapse_freed apart (t := lapsed s.endOutstanding o.conn) (by rw [frame]; rfl) (by rw [frame])
    rw [← lapsed_withBus] at handed
    split
    · next unused => exact lapseOutstanding_unused unused
    · next used =>
      rw [TransferTail, lapseOutstanding_used used, handed]
      rfl

end Sys2Proof.Claims

/-!
PROOFS. The two replies to a context's FIRE (R138 to R140, R146, R147): FIRING, and the ordered cases of NOT_ARMED.
-/

namespace Sys2Proof.Claims

open Sys2Proof.Machine

/-! ### A reply handed to the context that raised its request -/

/-- The raiser of the request is found again in every state that has kept the contexts. -/
theorem RaisedBy.found {s t : State} {o : Outstanding} {k : CtxId} {x : Context} (raised : RaisedBy s o k x)
    (transfers : t.transfers = s.transfers) :
    o.raiser = .context x.dispatchNumber ∧ t.contextNumbered x.dispatchNumber = some (k, x) :=
  ⟨raised.1, (contextNumbered_congr transfers _).trans raised.2.1⟩

theorem RaisedBy.freed_eq {s : State} {o : Outstanding} {k : CtxId} {x : Context} (raised : RaisedBy s o k x) :
    freed s o = s.endOutstanding := by
  rw [Claims.freed_eq, raised.1]
  exact if_neg nofun

section
variable {s t : State} {o : Outstanding} {k : CtxId} {x : Context}

/-- FIRING makes the context FIRED, a mismatch too (R138, R146). -/
theorem handReply_firing (raised : RaisedBy s o k x) (transfers : t.transfers = s.transfers) (mismatch : Bool) :
    t.handReply o .firing mismatch = inContext t k (firedContext t x) (t.conn x.order.conn) .fired := by
  obtain ⟨raiser, found⟩ := raised.found transfers
  simp only [State.handReply, raiser, found]
  rfl

theorem handReply_notArmed (raised : RaisedBy s o k x) (transfers : t.transfers = s.transfers) (mismatch : Bool) :
    t.handReply o .notArmed mismatch = t.takeNotArmed k x mismatch := by
  obtain ⟨raiser, found⟩ := raised.found transfers
  simp only [State.handReply, raiser, found]

end

/-! ### The cases of NOT_ARMED, in their order -/

/-- The single re-ARM of a context from the record `y` (R139). -/
def reArmed (u : State) (k : CtxId) (x : Context) (y : Connection) : State :=
  let v := inContext u k { x with state := .arming, retries := 0, reArmUsed := true, slot := some .arm } y .arming
  { v with transfers := { v.transfers with
      fireSlot := if u.transfers.fireSlot = some k then none else u.transfers.fireSlot } }

section
variable (u : State) (k : CtxId) {x : Context}

theorem reArm_eq_reArmed : u.reArm k x = reArmed u k x (u.conn x.order.conn) := by
  cases k <;> rfl

/-- After a FIRE that lapsed nobody knows whether the contact moved (R140). -/
theorem takeNotArmed_retried (retried : x.fireRetried = true) (mismatch : Bool) : u.takeNotArmed k x mismatch =
    ended u k x (unconfirmedRecord u (u.conn x.order.conn)) .unconfirmed true := by
  rw [State.takeNotArmed, if_pos retried, endTransfer_eq_ended]
  rfl

theorem takeNotArmed_mismatch (fresh : x.fireRetried = false) : u.takeNotArmed k x true =
    ended u k x (idled (u.conn x.order.conn)) .refused true := by
  simp only [State.takeNotArmed, fresh, Bool.false_eq_true, if_false, if_true, endTransfer_eq_ended]
  rfl

/-- A first NOT_ARMED re-arms, and a second ends the transfer (R139). -/
theorem takeNotArmed_allowed (fresh : x.fireRetried = false) (allowed : u.movesAllowed = true) :
    u.takeNotArmed k x false = if x.reArmUsed then ended u k x (idled (u.conn x.order.conn)) .refused false
      else reArmed u k x (u.conn x.order.conn) := by
  simp only [State.takeNotArmed, fresh, allowed, Bool.false_eq_true, if_false, if_true, endTransfer_eq_ended,
    reArm_eq_reArmed]
  rfl

/-- Under a hold or a restart deferral the context is disarmed (R147, R149). -/
theorem takeNotArmed_stopped (fresh : x.fireRetried = false) (stopped : u.movesAllowed = false)
    (alone : x.order.conn ∉ queuedConns u) : u.takeNotArmed k x false =
      if x.order.source = .balancer then ended u k x (idled (u.conn x.order.conn)) .withdrawn true
      else returned u k x (u.conn x.order.conn) := by
  simp only [State.takeNotArmed, fresh, stopped, Bool.false_eq_true, if_false, State.disarmContext,
    endTransfer_eq_ended]
  split
  · rfl
  · next master => exact returnOrder_eq_returned k master alone

end

theorem movesAllowed_iff (s : State) : s.movesAllowed = true ↔ s.hold = ⟨false, false⟩ ∧ s.restartDeferred = false := by
  rw [← holdSet_nonempty_eq_false, State.movesAllowed, Bool.and_eq_true, Bool.not_eq_true', Bool.not_eq_true']

theorem notMem_queuedConns {s : State} {c : ConnId} (alone : s.queue.orders.all (fun q => q.conn != c) = true) :
    c ∉ queuedConns s := by
  simpa [queuedConns] using alone

/-- A reply to FIRE hands its request back in the state that the presence machine left. -/
theorem exec_fireReply {s : State} {o : Outstanding} {k : CtxId} {x : Context} {serial : Word} {i : Instr} {r : Reply}
    (on : s.powered = true) (outstanding : s.bus.outstanding = some o) (raised : RaisedBy s o k x)
    (used : (s.config o.conn).kind ≠ .unused)
    (row : exec i s = s.whilePowered (s.busReply (unitAddress o.conn) o.tag serial r))
    (answers : r.answers o.request = true) (plain : ∀ t : State, t.takeContent o.conn r = t) {v : State}
    (handed : (metBy (freed s o) o.conn serial).handReply o r (recognised s o.conn serial).isNone = v) :
    ∃ t, exec i s = .next t ∧ TransferTail (withRemoval v o.conn (s.conn o.conn)) t := by
  refine ⟨_, row.trans (whilePowered_on on _), ?_⟩
  rw [busReply_answered outstanding answers, goodReply_plain used (.inr plain), ← raised.freed_eq, handed]
  rfl

/-- Settles O48: the reply is handed to its context, FIRING at once, NOT_ARMED by its ordered cases. -/
theorem fireReplies : Obligations.FireReplies := by
  intro s o k x serial on outstanding request raised used alone base seen u y
  have met : metBy (freed s o) o.conn serial = u := rfl
  have frame := met ▸ metBy_frame (freed s o) o.conn serial
  have transfers : u.transfers = s.transfers := by rw [frame]; rfl
  have settings : u.settings = s.settings := by rw [frame]; rfl
  have hold : u.hold = s.hold := by rw [frame]; rfl
  have deferral : u.restartDeferred = s.restartDeferred := by rw [frame]; rfl
  have queue : u.queue = s.queue := by rw [frame]; rfl
  have own : u.conn x.order.conn = y := congrArg u.conn raised.2.2.symm
  constructor
  · refine exec_fireReply on outstanding raised used rfl (by rw [request]; rfl) (fun _ => rfl) ?_
    rw [met, handReply_firing raised transfers, own, firedContext, State.setting_congr settings]
    rfl
  · have gives {v : State} (handed : u.takeNotArmed k x seen.isNone = v) :
        ∃ t, exec (.notArmedReply (unitAddress o.conn) o.tag serial) s = .next t ∧ TransferTail (base v) t :=
      exec_fireReply on outstanding raised used rfl (by rw [request]; rfl) (fun _ => rfl)
        ((handReply_notArmed raised transfers _).trans handed)
    have allowed : u.movesAllowed = true ↔ s.hold = ⟨false, false⟩ ∧ s.restartDeferred = false := by
      rw [movesAllowed_iff, hold, deferral]
    split
    · next retried =>
      refine gives ((takeNotArmed_retried u k retried _).trans ?_)
      rw [own, unconfirmedRecord, State.setting_congr settings]
      rfl
    next fresh =>
    have fresh : x.fireRetried = false := Bool.not_eq_true _ ▸ fresh
    split
    · next strange => exact gives (by rw [strange, ← own]; exact takeNotArmed_mismatch u k fresh)
    next known =>
    have known : seen.isNone = false := Option.isNone_eq_false_iff.mpr (Option.isSome_iff_ne_none.mpr known)
    rw [known] at gives
    split
    · next standing =>
      have rearms := takeNotArmed_allowed u k fresh (allowed.mpr standing)
      rw [own] at rearms
      split
      · next again => exact gives (rearms.trans (if_pos again))
      · next first =>
        rw [← transfers]
        exact gives (rearms.trans (if_neg first))
    · next stopped =>
      have alone : x.order.conn ∉ queuedConns u := raised.2.2 ▸ notMem_queuedConns (queue ▸ alone)
      have disarms := takeNotArmed_stopped u k fresh (Bool.not_eq_true _ ▸ mt allowed.mp stopped) alone
      rw [own] at disarms
      split
      · next balancer => exact gives (disarms.trans (if_pos balancer))
      · next master => exact gives (disarms.trans (if_neg master))

end Sys2Proof.Claims

/-!
PROOFS. The deadlines and the confirm timer of a context (R137, R138, R143): the return of an order of either source
(R105), and what each expiry does.
-/

namespace Sys2Proof.Claims

open Sys2Proof.Machine

/-! ### The queue apart from the bus -/

theorem engineTold_withBus (s : State) (b : Bus) (src : Source) :
    engineTold (s.withBus b) src = (engineTold s src).withBus b := by
  have orders : allOrders (s.withBus b) = allOrders s := rfl
  have engine : (s.withBus b).engine = s.engine := rfl
  unfold engineTold
  rw [orders, engine]
  split <;> rfl

theorem removed_withBus (s : State) (b : Bus) (o : Order) (e : LogOutcome) :
    removed (s.withBus b) o e = (removed s o e).withBus b := by
  unfold removed
  rw [← engineTold_withBus]
  rfl

/-- A removal leaves the bus, so that a release disarm may be raised before it or after. -/
theorem removed_raiseRelease (s : State) (o : Order) (e : LogOutcome) (c : ConnId) (n : Nat) :
    removed (s.raiseRelease c n) o e = (removed s o e).raiseRelease c n := by
  have bus : (removed s o e).bus = s.bus := by rw [removed, engineTold_frame]
  rw [State.raiseRelease, removed_withBus, State.raiseRelease, bus]

/-! ### What a queued order meets on its return (R105) -/

theorem lost_iff (v : Presence) : v.lost = true ↔ v = .absent ∨ v = .mismatch := by
  cases v <;> decide

theorem pinSet_isEmpty_iff (v : PinSet) : v.isEmpty = true ↔ v = ⟨false, false, false, false⟩ := by
  obtain ⟨op, sp, pp, localSwitch⟩ := v
  simp [PinSet.isEmpty, and_assoc]

theorem meetReturn_of_some {s : State} {c : ConnId} {o : Order} (queued : s.queuedOrder c = some o) : s.meetReturn c =
    if o.source = .balancer ∧ ((s.conn c).presence = .absent ∨ (s.conn c).presence = .mismatch) then
      removed s o .notPresent
    else if o.source = .balancer ∧ (s.conn c).pins ≠ ⟨false, false, false, false⟩ then removed s o .withdrawn
    else s := by
  simp only [State.meetReturn, removeBalancer_of_some queued, lost_iff, pinSet_isEmpty_iff]
  by_cases balancer : o.source = .balancer
  · simp only [balancer, true_and, if_true, ne_eq, ite_not]
  · simp only [balancer, false_and, if_false, ite_self]

/-- An order that has returned is the one found for its connection, when no other was. -/
theorem insertByAdmission_find (o : Order) {l : List Order} (apart : ∀ q ∈ l, q.conn ≠ o.conn) :
    (insertByAdmission o l).find? (fun q => q.conn == o.conn) = some o := by
  induction l with
  | nil => simp [insertByAdmission]
  | cons q l ih =>
    have other : q.conn ≠ o.conn := apart q (List.mem_cons_self ..)
    rw [insertByAdmission]
    split
    · simpa [other] using ih fun r member => apart r (List.mem_cons_of_mem _ member)
    · simp

/-- A context's order back in the queue, before it meets its connection. -/
def requeued (s : State) (k : CtxId) (x : Context) : State :=
  ((s.releaseContext k).withQueue { s.queue with orders := insertByAdmission x.order s.queue.orders }).setMotion
    x.order.conn .queued

section
variable (s : State) (k : CtxId) (x : Context)

theorem requeued_raiseRelease : (requeued s k x).raiseRelease x.order.conn x.dispatchNumber =
    returned s k x (s.conn x.order.conn) := by
  unfold requeued
  rw [insertByAdmission_eq, releaseContext_eq]
  rfl

theorem requeued_conn : (requeued s k x).conn x.order.conn = { s.conn x.order.conn with motion := .queued } := by
  unfold requeued
  rw [releaseContext_eq]
  exact State.setConn_conn_self ..

theorem requeued_queuedOrder (alone : x.order.conn ∉ queuedConns s) :
    (requeued s k x).queuedOrder x.order.conn = some x.order :=
  insertByAdmission_find x.order fun _ member same => alone (same ▸ mem_queuedConns member)

/-- The return of an order, a balancer order's meeting with its connection included (R105). -/
theorem returnOrder_raiseRelease (alone : x.order.conn ∉ queuedConns s) :
    (s.returnOrder k x).raiseRelease x.order.conn x.dispatchNumber =
      (let y := s.conn x.order.conn
       let back := returned s k x y
       if x.order.source = .balancer ∧ (y.presence = .absent ∨ y.presence = .mismatch) then
         removed back x.order .notPresent
       else if x.order.source = .balancer ∧ y.pins ≠ ⟨false, false, false, false⟩ then
         removed back x.order .withdrawn
       else back) := by
  have meets : s.returnOrder k x = (requeued s k x).meetReturn x.order.conn := rfl
  dsimp only
  rw [meets, meetReturn_of_some (requeued_queuedOrder s k x alone), requeued_conn, ← requeued_raiseRelease,
    removed_raiseRelease, removed_raiseRelease]
  dsimp only
  split
  · rfl
  · split <;> rfl

end

/-! ### The three expiries -/

section
variable {s : State} {k : CtxId}

/-- The expiries of a free context have no effect. -/
theorem expiries_free (on : s.powered = true) (free : s.context k = none) :
    exec (.armDeadlineExpiry k) s = .next s ∧ exec (.confirmTimerExpiry k) s = .next s
      ∧ exec (.confirmDeadlineExpiry k) s = .next s := by
  refine ⟨(whilePowered_on on _).trans ?_, (whilePowered_on on _).trans ?_, (whilePowered_on on _).trans ?_⟩
  all_goals rw [free]

variable {x : Context}

theorem exec_armDeadlineExpiry (on : s.powered = true) (flight : s.context k = some x) :
    exec (.armDeadlineExpiry k) s = .next (if x.state = .armed ∧ s.transfers.fireSlot ≠ some k ∧ x.armDeadline ≠ none
      then ((s.returnOrder k x).raiseRelease x.order.conn x.dispatchNumber).finish else s) := by
  refine (whilePowered_on on _).trans ?_
  rw [flight]
  simp [State.waitsForSlot, and_assoc, Option.isSome_iff_ne_none]

theorem exec_confirmTimerExpiry (on : s.powered = true) (flight : s.context k = some x) :
    exec (.confirmTimerExpiry k) s =
      .next (if x.state = .fired ∧ x.confirmTimer ≠ none then s.confirmTick k x else s) := by
  refine (whilePowered_on on _).trans ?_
  rw [flight]
  simp [Option.isSome_iff_ne_none]

theorem exec_confirmDeadlineExpiry (on : s.powered = true) (flight : s.context k = some x) :
    exec (.confirmDeadlineExpiry k) s = .next (if x.state = .fired ∧ x.confirmDeadline ≠ none
      then (s.endTransfer k x .unconfirmed false).finishTransfer else s) := by
  refine (whilePowered_on on _).trans ?_
  rw [flight]
  simp [Option.isSome_iff_ne_none]

/-- A request of the context waits in its slot or is outstanding. -/
theorem confirmBusy_iff (s : State) (x : Context) : (x.slot.isSome || s.requestOutstanding x) = true ↔
    x.slot ≠ none ∨ ∃ o, s.bus.outstanding = some o ∧ o.raiser = .context x.dispatchNumber := by
  unfold State.requestOutstanding
  rcases s.bus.outstanding with _ | o <;> simp [Option.isSome_iff_ne_none]

end

/-- Settles O55: each expiry of a context in flight, where its timer runs and where it does not. -/
theorem contextTimersExpire : Obligations.ContextTimersExpire := by
  intro s k on
  refine ⟨expiries_free on, fun x flight => ?_⟩
  have arm := exec_armDeadlineExpiry on flight
  have timer := exec_confirmTimerExpiry on flight
  have confirm := exec_confirmDeadlineExpiry on flight
  refine ⟨fun stopped => ?_,
    fun armed waits runs alone => ⟨_, arm.trans (congrArg _ (if_pos ⟨armed, waits, runs⟩)), ?_⟩,
    fun stopped => ?_, fun fired runs => ?_, fun stopped => ?_,
    fun fired runs => ⟨_, confirm.trans (congrArg _ (if_pos ⟨fired, runs⟩)), ?_⟩⟩
  · rw [arm, if_neg (by tauto)]
  · rw [returnOrder_raiseRelease s k x (notMem_queuedConns alone)]
    dsimp only
    split
    · rfl
    · split <;> rfl
  · rw [timer, if_neg (by tauto)]
  · rw [timer, if_pos ⟨fired, runs⟩, State.confirmTick]
    refine ⟨fun busy => ?_, fun idle => ?_⟩
    · rw [if_pos ((confirmBusy_iff s x).mpr busy)]
      rfl
    · rw [if_neg (mt (confirmBusy_iff s x).mp idle)]
      rfl
  · rw [confirm, if_neg (by tauto)]
  · rw [endTransfer_eq_ended]
    rfl

end Sys2Proof.Claims

/-!
PROOFS. RESTART (R149, R191): the deferral reaches the contexts as a hold does, and the restart waits for those that are
left or takes effect at once.
-/

namespace Sys2Proof.Claims

open Sys2Proof.Machine

/-! ### The state that a deferral has reached (R149) -/

/-- A restart has been deferred, and the contexts that have not fired are disarmed. -/
def deferred (s : State) : State := (s.withRestartDeferred true).reachContexts

theorem deferred_blocks (s : State) : (deferred s).restartDeferred = true ∧ (deferred s).saving = s.saving
    ∧ (deferred s).image = s.image ∧ (deferred s).partTime = s.partTime ∧ (deferred s).hold = s.hold
    ∧ (deferred s).ports = s.ports := by
  simp [deferred]

/-- Exactly the contexts that are FIRED or have their FIRE outstanding stand. -/
theorem deferred_context (s : State) (k : CtxId) (x : Context) : (deferred s).context k = some x ↔
    s.context k = some x ∧ (x.state = .fired ∨ s.fireOutstanding x = true) := by
  have left : (deferred s).context k = (s.context k).filter (fun x => !s.reachable x) :=
    reachContexts_context (s.withRestartDeferred true) k
  rw [left, Option.filter_eq_some_iff, Bool.not_eq_true', ← Bool.not_eq_true, reachable_iff, not_not]

theorem deferred_fireOutstanding (s : State) (x : Context) : (deferred s).fireOutstanding x = s.fireOutstanding x := by
  have outstanding : (deferred s).bus.outstanding = s.bus.outstanding :=
    reachContexts_outstanding (s.withRestartDeferred true)
  unfold State.fireOutstanding
  rw [outstanding]

/-- What holds a restart is what the deferral leaves. -/
theorem restartHeld_deferred (s : State) : RestartHeld (deferred s) ↔ RestartHeld s := by
  obtain ⟨-, saving, -⟩ := deferred_blocks s
  simp only [RestartHeld, saving, deferred_context, deferred_fireOutstanding, and_assoc, and_self]

/-- The contexts are reached before the port begins its response. -/
theorem deferred_disarmed {s : State} (one : OneOrderInAll s) (p : Port) :
    ∃ u, Disarmed { s with restartDeferred := true } u ∧ deferred (taken s p) = taken u p := by
  have reached : Disarmed (({ s with restartDeferred := true } : State).withPorts (taken s p).ports)
      (deferred (taken s p)) := reachContexts_disarmed one
  obtain ⟨u, disarmed, same⟩ := reached.of_withPorts
  exact ⟨u, disarmed, same.trans (taken_of_ports disarmed.ports p).symm⟩

/-! ### The end of the event while the restart is held (R191) -/

/-- Under a deferral the last parts of an event are the arbiter's choice and the lines. -/
theorem finish_deferred {s : State} (deferral : s.restartDeferred = true) : s.finish = s.arbitrate.setLines := by
  rw [State.finish, takeFireSlot_deferred s deferral, dispatchChoice_deferred s deferral]

/-- No context but those that hold the restart is left: under a deferral the last parts of the event start none. -/
theorem deferred_left (s : State) : OnlyFiredLeft s (deferred s).finish := by
  intro k y after
  rw [finish_deferred (deferred_blocks s).1] at after
  obtain ⟨x, left, state, number⟩ := (arbitrate_slotsAlone (deferred s)).context_back after
  obtain ⟨-, holds⟩ := (deferred_context s k x).mp left
  simpa only [State.fireOutstanding, state, number] using holds

/-- A context that is FIRED or has its FIRE outstanding goes on. -/
theorem deferred_keeps {s : State} {k : CtxId} {x : Context} (flight : s.context k = some x)
    (stays : x.state = .fired ∨ s.fireOutstanding x = true) :
    ∃ y, (deferred s).finish.context k = some y ∧ y.order = x.order ∧ y.state = x.state := by
  obtain ⟨-, -, -, -, -, goesOn⟩ := (finish_effects (deferred s)).1
  obtain ⟨y, after, order, state, -⟩ := goesOn k x ((deferred_context s k x).mpr ⟨flight, stays⟩)
  exact ⟨y, after, order, state⟩

/-- A deferral that waits leaves every block that is not named here. -/
theorem deferred_fields (s : State) : (deferred s).finish = { s with
    restartDeferred := true, engine := (deferred s).finish.engine, transfers := (deferred s).finish.transfers,
    queue := (deferred s).finish.queue, conns := (deferred s).finish.conns, bus := (deferred s).finish.bus,
    log := (deferred s).finish.log, alarms := (deferred s).finish.alarms, attention := (deferred s).finish.attention,
    ports := (deferred s).finish.ports } := by
  apply State.eq_of_fields <;> simp [deferred]

/-! ### RESTART -/

theorem exec_restart {s : State} {p : Port} (ready : Ready s p) (master : p ≠ .pp) : exec (.restart p []) s =
    .next (if s.restartDeferred then answered (taken s p) p 0xBC 0x26 []
      else (answered (deferred (taken s p)) p 0xBC 0x02 []).finishTransfer) := by
  have permitted : Command.restart.permitted p = true := bne_iff_ne.mpr master
  have flag : (s.setPort p { s.port p with rx := none }).restartDeferred = s.restartDeferred := rfl
  have served : ∀ t, serve .restart p [] t = serveRestart t := fun _ => rfl
  rw [exec_restart_ready p _ s ready.1 ready.2 permitted rfl, served, serveRestart, flag]
  split <;> rfl

/-- The response is in transmission when what holds the restart is looked at. -/
theorem restartHeld_answered (s : State) (p : Port) :
    RestartHeld (answered (deferred (taken s p)) p 0xBC 0x02 []) ↔ RestartHeld s :=
  restartHeld_deferred (taken s p)

/-- Settles O34: the deferral disarms the contexts, and what is left decides whether the restart waits. -/
theorem restartIsDeferred : Obligations.RestartIsDeferred := by
  intro s p ready master
  have row := exec_restart ready master
  obtain ⟨deferral, -, image, time, hold, ports⟩ := deferred_blocks (taken s p)
  refine ⟨fun already => ?_, fun first one => ?_, fun first held => ?_, fun first free => ?_⟩
  · rw [row, if_pos already]
  all_goals rw [if_neg (Bool.eq_false_iff.mp first)] at row
  · obtain ⟨u, disarmed, same⟩ := deferred_disarmed one p
    exact ⟨_, u, row, disarmed, same ▸ rfl⟩
  · rw [finishTransfer_eq_finish _ (.inr ((restartHeld_answered s p).mpr held)), answered_finish] at row
    have fields := deferred_fields (taken s p)
    refine ⟨_, row, congrArg State.restartDeferred fields, deferred_left (taken s p), ?_,
      fun k x flight stays => deferred_keeps (s := taken s p) flight stays, (finish_effects _).2,
      congrArg (answered · p 0xBC 0x02 []) fields⟩
    exact answers_answered (by simp [ports]) 0xBC 0x02 []
  · rw [finishTransfer_restarts (answered (deferred (taken s p)) p 0xBC 0x02 []) deferral
      (mt (restartHeld_answered s p).mp free)] at row
    obtain ⟨⟨-, -, -, -, settings, done, time', hold', queue, transfers, -⟩, restarted⟩ :=
      restartEffect_restarted (answered (deferred (taken s p)) p 0xBC 0x02 [])
    obtain ⟨-, -, -, -, response, -⟩ := restarted p
    refine ⟨_, row, done, settings.trans (congrArg (·.getD Settings.defaults) image), queue, transfers,
      time'.trans time, hold'.trans hold, response.trans ?_⟩
    simp [answered]

end Sys2Proof.Claims

/-!
PROOFS. The events that raise polls on the selector bus (R116 to R118): SURVEY, the survey timer and the routine spacing
timer.
-/

namespace Sys2Proof.Claims

open Sys2Proof.Machine

/-! ### Survey rounds (R117, R118) -/

theorem exec_survey {s : State} {p : Port} (ready : Ready s p) (master : p ≠ .pp) : exec (.survey p []) s =
    (let r := serveSurvey (taken s p)
     .next (answered r.state p 0xAB r.status.byte r.data)) := by
  have permitted : Command.survey.permitted p = true := bne_iff_ne.mpr master
  rw [exec_survey_ready p _ s ready.1 ready.2 permitted rfl]
  rfl

theorem startRound_eq (s : State) : s.startRound = s.withBus (roundStarted s.bus (surveyList s)) := by
  rw [← surveyList_eq (t := s) rfl fun _ => rfl]
  rfl

/-- Settles O28: a round that runs refuses the request, and none lets it start one. -/
theorem surveyStartsOneRound : Obligations.SurveyStartsOneRound := by
  intro s p ready master
  have round := startRound_eq (taken s p)
  have running : (taken s p).bus.surveyRunning = s.bus.surveyRunning := rfl
  rw [exec_survey ready master, serveSurvey, running]
  split
  · rfl
  · rw [round]
    rfl

/-- Settles O52: each timer where it runs and where it does not. -/
theorem busTimersRaisePolls : Obligations.BusTimersRaisePolls := by
  intro s on
  constructor
  · refine (whilePowered_on on _).trans (congrArg _ ?_)
    rcases s.bus.routineTimer with _ | n
    · rfl
    · rfl
  · refine (whilePowered_on on _).trans (congrArg _ (congrArg State.arbitrate ?_))
    unfold State.expireSurveyTimer
    split
    · rfl
    · rw [startRound_eq]
      rfl

end Sys2Proof.Claims

/-!
PROOFS. Frames on the selector bus (R113, R178): the bytes of a good reply are read back as it, and bytes that form none,
replies that answer no request and replies of a connection that is no longer used do nothing but end their request.
-/

namespace Sys2Proof.Claims

open Sys2Proof.Machine

/-! ### The row of a reply (R113) -/

/-- The row of a reply, by its content. -/
def replyRow (address tag : Byte) (serial : Word) : Reply → Instr
  | .poll report => .pollReply address tag serial report
  | .armed => .armedReply address tag serial
  | .armRefused reason => .armRefused address tag serial reason
  | .firing => .firingReply address tag serial
  | .notArmed => .notArmedReply address tag serial
  | .idle => .idleReply address tag serial

theorem exec_replyRow (s : State) (address tag : Byte) (serial : Word) (r : Reply) :
    exec (replyRow address tag serial r) s = s.whilePowered (s.busReply address tag serial r) := by
  cases r <;> rfl

theorem exec_busFrame_reply (s : State) {frame : List Byte} {address tag : Byte} {serial : Word} {r : Reply}
    (good : parseBusFrame frame = some (address, tag, serial, r)) :
    exec (.busFrameDiscarded frame) s = exec (replyRow address tag serial r) s := by
  rw [exec_replyRow]
  show execBusFrameDiscarded frame s = _
  rw [execBusFrameDiscarded, good]

theorem exec_busFrame_discarded (s : State) {frame : List Byte} (bad : parseBusFrame frame = none) :
    exec (.busFrameDiscarded frame) s = .next s := by
  show execBusFrameDiscarded frame s = _
  rw [execBusFrameDiscarded, bad]

/-! ### Poll reports on the wire (R178) -/

theorem readPhaseOrNone_phaseByte (p : Option Phase) : readPhaseOrNone (phaseByte p) = some p := by
  rcases p with _ | _ | _ | _ <;> rfl

theorem readUnitState_unitStateByte (u : UnitState) : readUnitState (unitStateByte u) = some u := by cases u <;> rfl

theorem reportFlags_getLsbD : ∀ engaged fault hot : Bool,
    let flags : Byte := flagByte engaged + (if fault then 2 else 0) + (if hot then 4 else 0)
    flags.getLsbD 0 = engaged ∧ flags.getLsbD 1 = fault ∧ flags.getLsbD 2 = hot := by decide

/-- A report is read back from its bytes. -/
theorem parseReport_pollReportOf (r : PollReport) : parseReport (pollReportOf r) = some r := by
  obtain ⟨engaged, fault, hot⟩ := reportFlags_getLsbD r.localEngaged r.contactFault r.overtemperature
  rw [← reportBytes_eq]
  simp only [reportBytes, halfBytes, List.cons_append, List.nil_append, parseReport, readPhaseOrNone_phaseByte,
    readUnitState_unitStateByte, readHalf_halves, engaged, fault, hot]

theorem readPhaseOrNone_above {b : Byte} (above : 3 < b.toNat) : readPhaseOrNone b = none := by
  have code : ∀ n : Byte, n.toNat ≤ 3 → b ≠ n := fun n small same => by subst same; omega
  rw [readPhaseOrNone, readPhase, if_neg (code 0 (by decide)), if_neg (code 1 (by decide)), if_neg (code 2 (by decide)),
    if_neg (code 3 (by decide))]
  rfl

theorem readUnitState_above {b : Byte} (above : 3 < b.toNat) : readUnitState b = none := by
  have code : ∀ n : Byte, n.toNat ≤ 3 → b ≠ n := fun n small same => by subst same; omega
  rw [readUnitState, if_neg (code 0 (by decide)), if_neg (code 1 (by decide)), if_neg (code 2 (by decide)),
    if_neg (code 3 (by decide))]

/-- A report with a code outside its table is none (log entry 18). -/
theorem parseReport_outside {closed unit target : Byte} (outside : 3 < closed.toNat ∨ 3 < unit.toNat ∨ 3 < target.toNat)
    (high low flags counter : Byte) : parseReport [closed, unit, target, high, low, flags, counter] = none := by
  unfold parseReport
  dsimp only
  split
  · next c u t first second third =>
    rcases outside with above | above | above
    · exact absurd (readPhaseOrNone_above above) (by simp [first])
    · exact absurd (readUnitState_above above) (by simp [second])
    · exact absurd (readPhaseOrNone_above above) (by simp [third])
  · rfl

theorem parseReport_length {bs : List Byte} {r : PollReport} (report : parseReport bs = some r) : bs.length = 7 := by
  unfold parseReport at report
  split at report
  · rfl
  · cases report

/-! ### Reply frames (R113, R178) -/

/-- The reply that the bytes between the start byte and the CRC spell. -/
def replyOf : List Byte → Option (Byte × Byte × Word × Reply)
  | address :: tag :: kind :: a :: b :: c :: d :: more =>
    (parseReplyKind kind more).map fun r => (address, tag, readWord a b c d, r)
  | _ => none

/-- Two bytes and the start byte stand around what a frame spells. -/
theorem parseBusFrame_frame (start : Byte) (body : List Byte) (high low : Byte) :
    parseBusFrame (start :: (body ++ [high, low])) =
      if start = 0xC3 ∧ crc16 body = readHalf high low then replyOf body else none := by
  have front : (body ++ [high, low]).take ((body ++ [high, low]).length - 2) = body := by simp
  have back : (body ++ [high, low]).drop ((body ++ [high, low]).length - 2) = [high, low] := by simp
  simp only [parseBusFrame, front, back]
  unfold replyOf
  split
  · next heads =>
    cases heads
    rfl
  · next other =>
    split
    · split
      · exact absurd rfl (other _ _ _ _ _ _ _ _ _ _ rfl)
      · rfl
    · rfl

/-- A frame that is a reply has the start byte, the CRC of its bytes, and bytes that spell one. -/
theorem parseBusFrame_some {frame : List Byte} {e : Byte × Byte × Word × Reply} (good : parseBusFrame frame = some e) :
    ∃ body high low, frame = 0xC3 :: (body ++ [high, low]) ∧ crc16 body = readHalf high low
      ∧ replyOf body = some e := by
  rcases frame with _ | ⟨start, rest⟩
  · cases good
  · rcases Nat.lt_or_ge rest.length 2 with short | long
    · simp [parseBusFrame, Nat.sub_eq_zero_of_le short.le] at good
    · obtain ⟨high, low, back⟩ := List.length_eq_two.mp
        (show (rest.drop (rest.length - 2)).length = 2 by rw [List.length_drop]; omega)
      have whole := List.take_append_drop (rest.length - 2) rest
      rw [back] at whole
      rw [← whole, parseBusFrame_frame] at good
      split at good
      · next test =>
        obtain ⟨rfl, crc⟩ := test
        exact ⟨_, high, low, by rw [whole], crc, good⟩
      · cases good

/-- A kind byte and the bytes after the serial that make a reply: a poll report, or a code of R178 and nothing more. -/
theorem parseReplyKind_some {kind : Byte} {more : List Byte} {r : Reply} (reply : parseReplyKind kind more = some r) :
    (kind = 0x81 ∧ ∃ report, parseReport more = some report) ∨ (0x82 ≤ kind.toNat ∧ kind.toNat ≤ 0x88 ∧ more = []) := by
  unfold parseReplyKind at reply
  split at reply
  · next poll =>
    obtain ⟨report, parsed, -⟩ := Option.map_eq_some_iff.mp reply
    exact .inl ⟨poll, report, parsed⟩
  · split at reply
    · cases reply
    · next none =>
      refine .inr ?_
      split_ifs at reply <;> subst kind <;> exact ⟨by decide, by decide, not_not.mp none⟩

theorem replyOf_some {body : List Byte} {e : Byte × Byte × Word × Reply} (reply : replyOf body = some e) :
    ∃ address tag kind a b c d more r, body = address :: tag :: kind :: a :: b :: c :: d :: more
      ∧ parseReplyKind kind more = some r := by
  unfold replyOf at reply
  split at reply
  · next address tag kind a b c d more =>
    obtain ⟨r, parsed, -⟩ := Option.map_eq_some_iff.mp reply
    exact ⟨address, tag, kind, a, b, c, d, more, r, rfl, parsed⟩
  · cases reply

/-! ### The bytes of a good reply -/

theorem readWord_bytes (w : Word) :
    readWord (w.extractLsb' 24 8) (w.extractLsb' 16 8) (w.extractLsb' 8 8) (w.extractLsb' 0 8) = w := by
  rw [readWord, BitVec.extractLsb'_append_extractLsb'_eq_extractLsb' (by rfl),
    BitVec.extractLsb'_append_extractLsb'_eq_extractLsb' (by rfl),
    BitVec.extractLsb'_append_extractLsb'_eq_extractLsb' (by rfl)]
  exact BitVec.extractLsb'_eq_self

/-- A reply's frame stands around its kind byte, its serial, and the bytes that its kind has more. -/
theorem replyFrame_shape (address tag : Byte) (serial : Word) (r : Reply) :
    ∃ kind more, parseReplyKind kind more = some r
      ∧ replyFrame address tag serial r =
        (let body := address :: tag :: kind :: (fourBytes serial ++ more)
         0xC3 :: (body ++ twoBytes (crcOf body))) := by
  cases r with
  | poll report => exact ⟨0x81, pollReportOf report, by simp [parseReplyKind, parseReport_pollReportOf], rfl⟩
  | armed => exact ⟨0x82, [], rfl, rfl⟩
  | armRefused reason =>
    cases reason with
    | localSwitch => exact ⟨0x83, [], rfl, rfl⟩
    | busy => exact ⟨0x84, [], rfl, rfl⟩
    | fault => exact ⟨0x85, [], rfl, rfl⟩
  | firing => exact ⟨0x86, [], rfl, rfl⟩
  | notArmed => exact ⟨0x87, [], rfl, rfl⟩
  | idle => exact ⟨0x88, [], rfl, rfl⟩

theorem parseBusFrame_replyFrame (address tag : Byte) (serial : Word) (r : Reply) :
    parseBusFrame (replyFrame address tag serial r) = some (address, tag, serial, r) := by
  obtain ⟨kind, more, parsed, shape⟩ := replyFrame_shape address tag serial r
  rw [shape]
  dsimp only
  rw [fourBytes_eq, twoBytes_eq, crcOf_eq, wordBytes, halfBytes]
  rw [parseBusFrame_frame, if_pos ⟨rfl, (readHalf_halves _).symm⟩]
  simp only [List.cons_append, List.nil_append, replyOf, parsed, Option.map_some, readWord_bytes]

/-- Settles O43: the bytes of each reply parse as it. -/
theorem busFrameBytesGiveTheReply : Obligations.BusFrameBytesGiveTheReply := by
  intro s address tag serial report reason _
  have gives (r : Reply) : exec (.busFrameDiscarded (replyFrame address tag serial r)) s =
      exec (replyRow address tag serial r) s := exec_busFrame_reply s (parseBusFrame_replyFrame address tag serial r)
  exact ⟨gives (.poll report), gives .armed, gives (.armRefused reason), gives .firing, gives .notArmed, gives .idle⟩

/-! ### Bytes that form no reply (R113, R178) -/

section
variable {start high low : Byte} {body : List Byte}

theorem parseBusFrame_start {rest : List Byte} (other : start ≠ 0xC3) : parseBusFrame (start :: rest) = none := by
  refine Option.eq_none_iff_forall_ne_some.mpr fun e good => ?_
  obtain ⟨_, _, _, frame, -⟩ := parseBusFrame_some good
  exact other (List.cons.inj frame).1

theorem parseBusFrame_short {frame : List Byte} (short : frame.length < 10) : parseBusFrame frame = none := by
  refine Option.eq_none_iff_forall_ne_some.mpr fun e good => ?_
  obtain ⟨_, _, _, rfl, -, reply⟩ := parseBusFrame_some good
  obtain ⟨_, _, _, _, _, _, _, _, _, rfl, -⟩ := replyOf_some reply
  simp at short
  omega

theorem parseBusFrame_crc (differs : crcOf body ≠ fromTwo high low) :
    parseBusFrame (0xC3 :: (body ++ [high, low])) = none := by
  rw [crcOf_eq, fromTwo_eq] at differs
  rw [parseBusFrame_frame, if_neg fun test => differs test.2]

theorem parseBusFrame_spelling (reply : replyOf body = none) :
    parseBusFrame (0xC3 :: (body ++ [high, low])) = none := by
  rw [parseBusFrame_frame, reply, ite_self]

end

theorem replyOf_kind {address tag kind : Byte} {content : List Byte}
    (bad : kind.toNat < 0x81 ∨ 0x88 < kind.toNat ∨ content.length ≠ (if kind = 0x81 then 11 else 4)) :
    replyOf (address :: tag :: kind :: content) = none := by
  refine Option.eq_none_iff_forall_ne_some.mpr fun e reply => ?_
  obtain ⟨_, _, _, a, b, c, d, more, r, same, parsed⟩ := replyOf_some reply
  simp only [List.cons.injEq] at same
  obtain ⟨-, -, rfl, rfl⟩ := same
  rcases parseReplyKind_some parsed with ⟨rfl, report, body⟩ | ⟨above, below, rfl⟩
  · simp [parseReport_length body] at bad
  · have other : kind ≠ 0x81 := fun same => by subst same; exact absurd above (by decide)
    rw [if_neg other] at bad
    simp only [List.length_cons, List.length_nil] at bad
    omega

theorem replyOf_outside {closed unit target : Byte} (outside : 3 < closed.toNat ∨ 3 < unit.toNat ∨ 3 < target.toNat)
    (address tag a b c d high low flags counter : Byte) :
    replyOf [address, tag, 0x81, a, b, c, d, closed, unit, target, high, low, flags, counter] = none := by
  rw [replyOf, parseReplyKind, if_pos rfl, parseReport_outside outside]
  rfl

/-! ### Replies that answer no request (R113) -/

theorem replyRow_discarded {s : State} (on : s.powered = true) {address tag : Byte} {r : Reply}
    (ignored : ∀ o, s.bus.outstanding = some o → o.answeredBy address tag r = false) (serial : Word) :
    exec (replyRow address tag serial r) s = .next s := by
  rw [exec_replyRow, whilePowered_on on, State.busReply]
  split
  · rfl
  · next o outstanding => rw [ignored o outstanding, if_neg Bool.false_ne_true]

theorem unitAddress_toNat (c : ConnId) : (unitAddress c).toNat = c.val + 1 := by
  have small := c.isLt
  simp only [unitAddress, byteOf, BitVec.toNat_ofNat]
  omega

/-- A reply from another address or with another tag. -/
theorem answeredBy_elsewhere {o : Outstanding} {address tag : Byte}
    (other : address.toNat ≠ o.conn.val + 1 ∨ tag ≠ o.tag) (r : Reply) : o.answeredBy address tag r = false := by
  rw [Outstanding.answeredBy, ← unitAddress_eq, Bool.and_eq_false_iff, Bool.and_eq_false_iff, beq_eq_false_iff_ne,
    beq_eq_false_iff_ne]
  rcases other with address | tag
  · exact .inl (.inl fun same => address (by rw [← same, unitAddress_toNat]))
  · exact .inl (.inr tag.symm)

/-- The request that a reply of each kind answers. -/
def Awaits (q : BusRequest) : Reply → Prop
  | .poll _ => q = .poll
  | .armed | .armRefused _ => ∃ target dead hold, q = .arm target dead hold
  | .firing | .notArmed => q = .fire
  | .idle => q = .disarm

theorem answers_iff (r : Reply) (q : BusRequest) : r.answers q = true ↔ Awaits q r := by
  cases r <;> cases q <;> simp [Reply.answers, Awaits]

/-- A reply of a kind that does not answer the request. -/
theorem answeredBy_unsuited {o : Outstanding} {r : Reply} (unsuited : ¬ Awaits o.request r) (address tag : Byte) :
    o.answeredBy address tag r = false := by
  rw [Outstanding.answeredBy, Bool.eq_false_iff.mpr (mt (answers_iff r o.request).mp unsuited), Bool.and_false]

/-! ### The good reply of a connection that has become UNUSED (log entry 17) -/

theorem replyRow_unused {s : State} (on : s.powered = true) {o : Outstanding} (outstanding : s.bus.outstanding = some o)
    (unused : (s.config o.conn).kind = .unused) {r : Reply} (awaited : Awaits o.request r) (serial : Word) :
    ∃ t, exec (replyRow (unitAddress o.conn) o.tag serial r) s = .next t ∧ TransferTail (freed s o) t := by
  refine ⟨_, (exec_replyRow ..).trans (whilePowered_on on _), ?_⟩
  have notUsed : ¬ s.endOutstanding.used o.conn = true := fun used => (bne_iff_ne ..).mp used unused
  rw [TransferTail, busReply_answered outstanding ((answers_iff ..).mpr awaited), State.goodReply]
  dsimp only
  rw [if_neg notUsed, freed_eq]

/-- Settles O42: each frame that fails the test of R113, and the one that passes it for nobody. -/
theorem framesThatAnswerNothing : Obligations.FramesThatAnswerNothing := by
  refine ⟨fun s a tag serial report reason on unanswered => ?_,
    fun s a tag serial report reason o on outstanding => ?_, fun s _ => ?_,
    fun s o serial report reason on outstanding unused => ?_⟩
  · have ignored (r : Reply) : exec (replyRow a tag serial r) s = .next s := by
      refine replyRow_discarded on (fun o outstanding => ?_) serial
      rcases unanswered with none | ⟨_, same, other⟩
      · cases none.symm.trans outstanding
      · obtain rfl := Option.some.inj (same.symm.trans outstanding)
        exact answeredBy_elsewhere other r
    exact ⟨ignored (.poll report), ignored .armed, ignored (.armRefused reason), ignored .firing, ignored .notArmed,
      ignored .idle⟩
  · have ignored (r : Reply) (unsuited : ¬ Awaits o.request r) : exec (replyRow a tag serial r) s = .next s :=
      replyRow_discarded on (fun o' same => by
        obtain rfl := Option.some.inj (outstanding.symm.trans same)
        exact answeredBy_unsuited unsuited a tag) serial
    refine ⟨ignored (.poll report), fun other => ?_, fun other => ⟨ignored .firing other, ignored .notArmed other⟩,
      ignored .idle⟩
    have unarmed : ¬ ∃ q d h, o.request = .arm q d h := fun ⟨q, d, h, arm⟩ => other q d h arm
    exact ⟨ignored .armed unarmed, ignored (.armRefused reason) unarmed⟩
  · have discarded {frame : List Byte} (bad : parseBusFrame frame = none) :
        exec (.busFrameDiscarded frame) s = .next s := exec_busFrame_discarded s bad
    exact ⟨discarded rfl, fun start rest other => discarded (parseBusFrame_start other),
      fun body high low differs => discarded (parseBusFrame_crc differs),
      fun frame short => discarded (parseBusFrame_short short),
      fun address tag kind high low content bad => discarded (parseBusFrame_spelling (replyOf_kind bad)),
      fun address tag a b c d closed unit target p q flags counter high low outside =>
        discarded (parseBusFrame_spelling (replyOf_outside outside address tag a b c d p q flags counter))⟩
  · have finishes (r : Reply) (awaited : Awaits o.request r) :=
      replyRow_unused on outstanding unused awaited serial
    intro ends
    exact ⟨finishes (.poll report),
      fun q d h arm => ⟨finishes .armed ⟨q, d, h, arm⟩, finishes (.armRefused reason) ⟨q, d, h, arm⟩⟩,
      fun fire => ⟨finishes .firing fire, finishes .notArmed fire⟩, finishes .idle⟩

end Sys2Proof.Claims

/-!
PROOFS. The arbiter's choice (R115 to R117, R132): the context and the disarm that go first, the choice of the rotation, what
a survey round polls next, and the classes in their order.
-/

namespace Sys2Proof.Claims

open Sys2Proof.Machine

/-! ### The least of a list by a number -/

/-- A scan that keeps the element with the lesser number, the earlier one of two, finds a least one. -/
theorem foldl_lesser_argmin {α : Type} (f : α → Nat) (l : List α) (a : α) :
    (a :: l).argmin f = some (l.foldl (fun b e => if f e < f b then e else b) a) := by
  induction l generalizing a with
  | nil => rfl
  | cons e l ih =>
    rw [List.foldl_cons, ← ih]
    simp only [List.argmin, List.foldl_cons, List.argAux]
    split <;> rfl

/-! ### The context whose request goes first (R114, R115) -/

theorem earliest_eq_argmin (s : State) (test : CtxId → Context → Bool) :
    s.earliest test = (s.inFlight.filter fun e => test e.1 e.2).argmin (·.2.dispatchNumber) := by
  unfold State.earliest
  split
  · next none => rw [none]; rfl
  · next e rest listed => rw [listed, foldl_lesser_argmin]

theorem mem_waiting_iff (s : State) (r : CtxRequest) (k : CtxId) (x : Context) :
    (k, x) ∈ s.inFlight.filter (fun e => e.2.slot == some r) ↔ Waits s r k x := by
  rw [List.mem_filter, inFlight_mem, beq_iff_eq, Waits]

theorem waitingRequest_goesFirst {s : State} {r : CtxRequest} {k : CtxId} {x : Context}
    (waiting : s.waitingRequest r = some (k, x)) : GoesFirst s r k x := by
  rw [State.waitingRequest, earliest_eq_argmin] at waiting
  exact ⟨(mem_waiting_iff s r k x).mp (List.argmin_mem waiting),
    fun j y waits => List.le_of_mem_argmin (f := fun e => e.2.dispatchNumber) ((mem_waiting_iff s r j y).mpr waits)
      waiting⟩

theorem waitingRequest_none_iff (s : State) (r : CtxRequest) :
    s.waitingRequest r = none ↔ ∀ k x, ¬ Waits s r k x := by
  rw [State.waitingRequest, earliest_eq_argmin, List.argmin_eq_none, List.eq_nil_iff_forall_not_mem, Prod.forall]
  simp only [mem_waiting_iff]

/-- A class with a request waiting grants the one that goes first. -/
theorem waitingRequest_of_waits {s : State} {r : CtxRequest} (waits : ¬ ∀ k x, ¬ Waits s r k x) :
    ∃ k x, s.waitingRequest r = some (k, x) ∧ GoesFirst s r k x := by
  rcases waiting : s.waitingRequest r with _ | ⟨k, x⟩
  · exact absurd ((waitingRequest_none_iff s r).mp waiting) waits
  · exact ⟨k, x, rfl, waitingRequest_goesFirst waiting⟩

/-! ### The lowest connection that passes a test -/

theorem find?_allConns {test : ConnId → Bool} {c : ConnId} (found : allConns.find? test = some c) :
    test c = true ∧ ∀ d, test d = true → c ≤ d :=
  ⟨List.find?_some found, fun d => find?_lowest (List.pairwise_lt_finRange 64) found d (List.mem_finRange d)⟩

theorem find?_allConns_none {test : ConnId → Bool} (none : allConns.find? test = none) (c : ConnId) : ¬ test c = true :=
  List.find?_eq_none.mp none c (List.mem_finRange c)

/-! ### The disarm that goes first (R115) -/

/-- The release disarms that wait, by connection, each with its transfer's dispatch number. -/
def releases (s : State) : List (ConnId × Nat) := allConns.filterMap fun c => (s.releaseMark c).map fun n => (c, n)

theorem releaseMark_iff (s : State) (c : ConnId) (n : Nat) :
    s.releaseMark c = some n ↔ s.bus.disarmSlots.get c = some (.release n) := by
  unfold State.releaseMark
  split
  · next m slot => rw [slot, Option.some.injEq, Option.some.injEq, DisarmMark.release.injEq]
  · next other => exact ⟨nofun, fun slot => absurd slot (other n)⟩

theorem mem_releases_iff (s : State) (c : ConnId) (n : Nat) :
    (c, n) ∈ releases s ↔ s.bus.disarmSlots.get c = some (.release n) := by
  rw [← releaseMark_iff]
  simp [releases, allConns]

theorem nextDisarm_eq (s : State) : s.nextDisarm =
    if releases s = [] then allConns.find? fun c => (s.bus.disarmSlots.get c).isSome
    else ((releases s).argmin (·.2)).map (·.1) := by
  have list : (allConns.filterMap fun c => (s.releaseMark c).map fun n => (c, n)) = releases s := rfl
  unfold State.nextDisarm
  rw [list]
  dsimp only
  split
  · next none => rw [if_pos none]
  · next e rest listed => rw [listed, if_neg (List.cons_ne_nil _ _), foldl_lesser_argmin]; rfl

theorem releases_eq_nil_iff (s : State) : releases s = [] ↔ ∀ c n, s.bus.disarmSlots.get c ≠ some (.release n) := by
  rw [List.eq_nil_iff_forall_not_mem, Prod.forall]
  simp only [mem_releases_iff, ne_eq]

/-- Release disarms go by their dispatch numbers. -/
theorem nextDisarm_release {s : State} (waits : ¬ ∀ c n, s.bus.disarmSlots.get c ≠ some (.release n)) :
    ∃ c n, s.nextDisarm = some c ∧ s.bus.disarmSlots.get c = some (.release n)
      ∧ ∀ d m, s.bus.disarmSlots.get d = some (.release m) → n ≤ m := by
  have some := mt (releases_eq_nil_iff s).mp waits
  rcases least : (releases s).argmin (·.2) with _ | ⟨c, n⟩
  · exact absurd (List.argmin_eq_none.mp least) some
  · refine ⟨c, n, by rw [nextDisarm_eq, if_neg some, least]; rfl, (mem_releases_iff s c n).mp (List.argmin_mem least),
      fun d m other => List.le_of_mem_argmin ((mem_releases_iff s d m).mpr other) least⟩

/-- With no release disarm waiting the stray ones go by their connections. -/
theorem nextDisarm_stray {s : State} (none : ∀ c n, s.bus.disarmSlots.get c ≠ some (.release n))
    (waits : ¬ ∀ c, s.bus.disarmSlots.get c = .none) :
    ∃ c, s.nextDisarm = some c ∧ s.bus.disarmSlots.get c = some .stray
      ∧ ∀ d, s.bus.disarmSlots.get d = some .stray → c ≤ d := by
  rw [nextDisarm_eq, if_pos ((releases_eq_nil_iff s).mpr none)]
  rcases found : allConns.find? fun c => (s.bus.disarmSlots.get c).isSome with _ | c
  · exact absurd (fun c => by simpa using find?_allConns_none found c) waits
  · obtain ⟨waiting, lowest⟩ := find?_allConns found
    refine ⟨c, rfl, ?_, fun d stray => lowest d (by rw [stray]; rfl)⟩
    rcases slot : s.bus.disarmSlots.get c with _ | n | _
    · rw [slot] at waiting
      cases waiting
    · exact absurd slot (none c n)
    · rfl

theorem nextDisarm_none {s : State} (none : ∀ c, s.bus.disarmSlots.get c = .none) : s.nextDisarm = .none := by
  have noRelease : ∀ c n, s.bus.disarmSlots.get c ≠ some (.release n) := fun c n => by rw [none]; exact nofun
  rw [nextDisarm_eq, if_pos ((releases_eq_nil_iff s).mpr noRelease), List.find?_eq_none]
  exact fun c _ => by simp [none c]

/-! ### The rotation (R116) -/

theorem notInFlight_iff (m : Motion) : m.inFlight = false ↔ m ≠ .arming ∧ m ≠ .armed ∧ m ≠ .fired := by
  rw [← Bool.not_eq_true, inFlight_iff, not_or, not_or]

theorem inRotation_iff (s : State) (c : ConnId) : s.inRotation c = true ↔ Rotates s c := by
  simp only [State.inRotation, Rotates, State.used, Bool.and_eq_true, Bool.or_eq_true, bne_iff_ne, beq_iff_eq,
    Bool.not_eq_true', notInFlight_iff, or_assoc, and_assoc]

theorem abovePosition_iff (s : State) (c : ConnId) :
    (s.bus.position.any fun p => decide (p < c)) = true ↔ AbovePosition s c := by
  simp [AbovePosition, Option.any_eq_true]

theorem rotationChoice_eq (s : State) : s.rotationChoice =
    (allConns.find? fun c => s.inRotation c && s.bus.position.any fun p => decide (p < c)).or
      (allConns.find? s.inRotation) := by
  have members : ∀ test : ConnId → Bool, (allConns.filter s.inRotation).find? test =
      allConns.find? fun c => s.inRotation c && test c := fun test => by
    simp [List.find?_filter]
  unfold State.rotationChoice
  dsimp only
  rw [List.head?_filter]
  rcases s.bus.position with _ | p
  · simp only [Option.any_none, Bool.and_false]
    rw [List.find?_eq_none.mpr fun _ _ => Bool.false_ne_true, Option.none_or]
  · dsimp only [Option.any_some]
    rw [members]
    split
    · next c found => rw [found]; rfl
    · next none => rw [none]; rfl

/-- The rotation's choice is R116's, and there is one when there is a member. -/
theorem rotationChoice_some {s : State} {c : ConnId} (choice : s.rotationChoice = some c) : RotationTakes s c := by
  rw [rotationChoice_eq] at choice
  rcases above : allConns.find? fun c => s.inRotation c && s.bus.position.any fun p => decide (p < c) with _ | d
  · rw [above, Option.none_or] at choice
    obtain ⟨member, lowest⟩ := find?_allConns choice
    refine ⟨(inRotation_iff s c).mp member, .inr ⟨fun d rotates higher => ?_,
      fun d rotates => lowest d ((inRotation_iff s d).mpr rotates)⟩⟩
    refine find?_allConns_none above d ?_
    rw [Bool.and_eq_true, inRotation_iff, abovePosition_iff]
    exact ⟨rotates, higher⟩
  · rw [above, Option.some_or] at choice
    obtain rfl := Option.some.inj choice
    obtain ⟨member, lowest⟩ := find?_allConns above
    simp only [Bool.and_eq_true, inRotation_iff, abovePosition_iff] at member lowest
    exact ⟨member.1, .inl ⟨member.2, fun d rotates higher => lowest d ⟨rotates, higher⟩⟩⟩

theorem rotationChoice_none_iff (s : State) : s.rotationChoice = none ↔ ∀ c, ¬ Rotates s c := by
  rw [rotationChoice_eq, Option.or_eq_none_iff, List.find?_eq_none, List.find?_eq_none]
  simp only [allConns, List.mem_finRange, true_implies, Bool.and_eq_true, inRotation_iff, abovePosition_iff]
  exact ⟨fun none => none.2, fun none => ⟨fun c member => none c member.1, none⟩⟩

/-! ### The survey (R117) -/

theorem stillSurveyed_iff (s : State) (c : ConnId) :
    (s.surveyed c && !(s.conn c).motion.inFlight) = true ↔ StillSurveyed s c := by
  simp only [State.surveyed, StillSurveyed, State.used, Bool.and_eq_true, bne_iff_ne, lost_iff, Bool.not_eq_true',
    notInFlight_iff, and_assoc]

section
variable {s : State}

theorem grantSurvey_idle (idle : s.bus.surveySlot = false) : s.grantSurvey = s := by
  rw [State.grantSurvey, if_neg (by simp [idle])]

/-- With none of the listed connections left to poll the round ends. -/
theorem grantSurvey_ends (slot : s.bus.surveySlot = true) (none : ∀ c ∈ s.bus.surveyList, ¬ StillSurveyed s c) :
    s.grantSurvey = { surveyLeft s [] with bus := { (surveyLeft s []).bus with surveyRunning := false } } := by
  have left : (s.bus.surveyList.dropWhile fun c => !(s.surveyed c && !(s.conn c).motion.inFlight)) = [] := by
    rw [List.dropWhile_eq_nil_iff]
    intro c listed
    rw [Bool.not_eq_true', ← Bool.not_eq_true, stillSurveyed_iff]
    exact none c listed
  rw [State.grantSurvey, if_pos slot, left]
  rfl

/-- The first listed connection that still qualifies is polled, and those before it are struck. -/
theorem grantSurvey_polls (slot : s.bus.surveySlot = true) {before after : List ConnId} {c : ConnId}
    (listed : s.bus.surveyList = before ++ c :: after) (struck : ∀ d ∈ before, ¬ StillSurveyed s d)
    (still : StillSurveyed s c) : s.grantSurvey = sent (surveyLeft s after) c .poll .survey := by
  have left : (s.bus.surveyList.dropWhile fun c => !(s.surveyed c && !(s.conn c).motion.inFlight)) = c :: after := by
    rw [listed, List.dropWhile_append_of_pos, List.dropWhile_cons_of_neg]
    · rw [Bool.not_eq_true', Bool.not_eq_false, stillSurveyed_iff]
      exact still
    · intro d member
      rw [Bool.not_eq_true', ← Bool.not_eq_true, stillSurveyed_iff]
      exact struck d member
  rw [State.grantSurvey, if_pos slot, left]
  rfl

end

/-! ### The choice among the classes (R115) -/

section
variable {s : State}

theorem grantRoutine_polls (slot : s.bus.routineSlot = true) (member : ∃ c, Rotates s c) : ∃ c, RotationTakes s c
    ∧ s.grantRoutine =
      sent { routineTaken s with bus := { (routineTaken s).bus with position := some c } } c .poll .routine := by
  rcases choice : s.rotationChoice with _ | c
  · obtain ⟨c, rotates⟩ := member
    exact absurd rotates ((rotationChoice_none_iff s).mp choice c)
  · refine ⟨c, rotationChoice_some choice, ?_⟩
    rw [State.grantRoutine, if_pos slot, choice]
    rfl

/-- The state that the survey class finds: the routine poll, where one waited, has been dropped (log entry 30). -/
def routinePassed (s : State) : State := if s.bus.routineSlot = true then routineTaken s else s

/-- Without a routine poll, or with one dropped for want of a member, the choice goes on. -/
theorem grantRoutine_passes (idle : s.bus.routineSlot = false ∨ ∀ c, ¬ Rotates s c) :
    s.grantRoutine = (routinePassed s).grantSurvey := by
  unfold State.grantRoutine routinePassed
  split
  · next slot =>
    have none := (rotationChoice_none_iff s).mpr (idle.resolve_left (by simp [slot]))
    rw [none]
    rfl
  · rfl

/-- The dropped poll leaves the survey as it was. -/
theorem routinePassed_survey (s : State) : (routinePassed s).bus.surveySlot = s.bus.surveySlot
    ∧ (routinePassed s).bus.surveyList = s.bus.surveyList ∧ StillSurveyed (routinePassed s) = StillSurveyed s := by
  unfold routinePassed
  split <;> exact ⟨rfl, rfl, rfl⟩

end

/-- Settles O51: the classes in their order, each with its own choice. -/
theorem arbiterGrantsByClass : Obligations.ArbiterGrantsByClass := by
  intro s t idle noRelease noDisarm
  refine ⟨fun busy => if_pos busy, fun free => ?_⟩
  have choice : t = s.arbitrate := rfl
  rw [State.arbitrate, if_neg (by simp [free])] at choice
  have quiet {r : CtxRequest} (none : idle r) : s.waitingRequest r = .none := (waitingRequest_none_iff s r).mpr none
  refine ⟨fun fire => ?_, fun noFire release => ?_, fun noFire noRelease disarm => ?_,
    fun noFire noDisarm confirm => ?_, fun noFire noDisarm noConfirm arm => ?_,
    fun noFire noDisarm noConfirm noArm => ?_⟩
  · obtain ⟨k, x, waiting, first⟩ := waitingRequest_of_waits fire
    exact ⟨k, x, first, by rw [choice, waiting]; rfl⟩
  · obtain ⟨c, n, next, slot, least⟩ := nextDisarm_release release
    exact ⟨c, n, slot, least, by rw [choice, quiet noFire, next]; rfl⟩
  · obtain ⟨c, next, slot, least⟩ := nextDisarm_stray noRelease disarm
    exact ⟨c, slot, least, by rw [choice, quiet noFire, next]; rfl⟩
  all_goals rw [quiet noFire, nextDisarm_none noDisarm] at choice
  · obtain ⟨k, x, waiting, first⟩ := waitingRequest_of_waits confirm
    exact ⟨k, x, first, by rw [choice, waiting]; rfl⟩
  · obtain ⟨k, x, waiting, first⟩ := waitingRequest_of_waits arm
    exact ⟨k, x, first, by rw [choice, quiet noConfirm, waiting]; rfl⟩
  · rw [quiet noConfirm, quiet noArm] at choice
    change t = s.grantRoutine at choice
    rw [choice]
    refine ⟨grantRoutine_polls, fun passes => ?_⟩
    rw [grantRoutine_passes passes]
    obtain ⟨slot, list, still⟩ := routinePassed_survey s
    rw [← slot, ← list, ← still]
    exact ⟨grantSurvey_idle, grantSurvey_ends, fun survey before c after => grantSurvey_polls survey⟩

end Sys2Proof.Claims

/-!
PROOFS. The replies to a context's confirm poll and to its ARM (R131, R134, R135, R142, R146): the decision of the table, the
end of a refused transfer, and the FIRE of a context that has become ARMED.
-/

namespace Sys2Proof.Claims

open Sys2Proof.Machine

/-! ### A reply to a request of a context -/

section
variable {s t : State} {o : Outstanding} {k : CtxId} {x : Context} {serial : Word} {r : Reply}

/-- A reply taken as a mismatch is handed to its context in the state that R123 leaves. -/
theorem replyRow_strange (on : s.powered = true) (outstanding : s.bus.outstanding = some o) (raised : RaisedBy s o k x)
    (used : (s.config o.conn).kind ≠ .unused) (awaited : Awaits o.request r)
    (strange : recognised s o.conn serial = none)
    (handed : (estranged (freed s o) o.conn serial).handReply o r true = t) :
    ∃ u, exec (replyRow (unitAddress o.conn) o.tag serial r) s = .next u
      ∧ TransferTail (withRemoval t o.conn (s.conn o.conn)) u := by
  refine ⟨_, (exec_replyRow ..).trans (whilePowered_on on _), ?_⟩
  have met : metBy s.endOutstanding o.conn serial = estranged s.endOutstanding o.conn serial :=
    metBy_strange (s := s.endOutstanding) strange
  rw [TransferTail, busReply_answered outstanding ((answers_iff ..).mpr awaited), goodReply_plain used (.inl strange),
    met, strange, ← raised.freed_eq, Option.isNone_none, handed]

/-- A recognised reply writes its content into the record and is handed to its context. -/
theorem replyRow_known (on : s.powered = true) (outstanding : s.bus.outstanding = some o) (raised : RaisedBy s o k x)
    (used : (s.config o.conn).kind ≠ .unused) (awaited : Awaits o.request r) {y : Connection}
    (known : recognised s o.conn serial = some y)
    (handed : ((withConn (freed s o) o.conn y).takeContent o.conn r).handReply o r false = t) :
    ∃ u, exec (replyRow (unitAddress o.conn) o.tag serial r) s = .next u
      ∧ TransferTail (withRemoval t o.conn (s.conn o.conn)) u := by
  refine ⟨_, (exec_replyRow ..).trans (whilePowered_on on _), ?_⟩
  have met : metBy s.endOutstanding o.conn serial = withConn s.endOutstanding o.conn y :=
    metBy_recognised (s := s.endOutstanding) known
  rw [TransferTail, busReply_answered outstanding ((answers_iff ..).mpr awaited), goodReply_eq used, met, known,
    ← raised.freed_eq, ← handed]
  rfl

theorem RaisedBy.own (raised : RaisedBy s o k x) : o.conn = x.order.conn := raised.2.2

theorem handReply_poll (raised : RaisedBy s o k x) (transfers : t.transfers = s.transfers) (report : PollReport)
    (mismatch : Bool) : t.handReply o (.poll report) mismatch = t.takeConfirm k x report mismatch := by
  obtain ⟨raiser, found⟩ := raised.found transfers
  simp only [State.handReply, raiser, found]

theorem handReply_armed (raised : RaisedBy s o k x) (transfers : t.transfers = s.transfers) (mismatch : Bool) :
    t.handReply o .armed mismatch = t.takeArmed k x mismatch := by
  obtain ⟨raiser, found⟩ := raised.found transfers
  simp only [State.handReply, raiser, found]

theorem handReply_armRefused (raised : RaisedBy s o k x) (transfers : t.transfers = s.transfers) (reason : ArmRefusal)
    (mismatch : Bool) : t.handReply o (.armRefused reason) mismatch = t.takeRefusal k x reason mismatch := by
  obtain ⟨raiser, found⟩ := raised.found transfers
  simp only [State.handReply, raiser, found]

end

theorem estranged_transfers (s : State) (c : ConnId) (serial : Word) :
    (estranged s c serial).transfers = s.transfers := by
  unfold estranged
  dsimp only
  split <;> rfl

/-! ### The decision of a confirm poll (R142) -/

/-- The phase that a decided transfer shows. -/
def shownBy (x : Context) : Ending → Option Phase
  | .completed => some x.order.target
  | .fellBack p => some p
  | .faultOpen | .unconfirmed | .refused | .unitFault | .noReply | .withdrawn => none

/-- The decision is the table's, row by row. -/
theorem confirmed_eq (x : Context) (r : PollReport) :
    confirmed x r = (x.decision r).map fun e => (e.outcome, shownBy x e) := by
  unfold confirmed Context.decision
  rcases unit : r.unitState <;> rcases closed : r.closedPhase with _ | p
  case steady.some =>
    by_cases reached : p = x.order.target
    · simp [reached, shownBy, Ending.outcome]
    by_cases moved : (x.counterAtDispatch != some r.counter) = true
    · rcases source : x.sourcePhase with _ | q
      · simp [reached, moved, shownBy, Ending.outcome]
      · by_cases back : q = p
        · subst back
          simp [reached, moved, shownBy, Ending.outcome]
        · simp [reached, back, Ne.symm back]
    · rcases x.sourcePhase with _ | q
      · simp [reached, moved]
      · simp [reached, moved]
  case fault.none => rfl
  all_goals simp

/-- The record at a decided end is R144's. -/
theorem afterEnding_decision {x : Context} {r : PollReport} {e : Ending} (decided : x.decision r = some e) (s : State)
    (y : Connection) : y.afterEnding x.order.target (s.setting .settleInterval) e =
      confirmedRecord s y e.outcome (shownBy x e) := by
  have possible : e = .completed ∨ (∃ p, e = .fellBack p) ∨ e = .faultOpen := by
    unfold Context.decision at decided
    dsimp only at decided
    repeat' split at decided
    all_goals cases decided
    all_goals simp
  rcases possible with rfl | ⟨p, rfl⟩ | rfl <;> rfl

section
variable (u : State) (k : CtxId) {x : Context} {r : PollReport}

/-- A decided transfer ends with the effects of R144. -/
theorem takeConfirm_decided {e : Ending} (decided : x.decision r = some e) : u.takeConfirm k x r false =
    ended u k x (confirmedRecord u (u.conn x.order.conn) e.outcome (shownBy x e)) e.outcome false := by
  simp only [State.takeConfirm, Bool.false_eq_true, if_false, decided]
  rw [endTransfer_eq_ended, afterEnding_decision decided]

theorem takeConfirm_mismatch : u.takeConfirm k x r true = u := rfl

theorem takeConfirm_undecided (undecided : x.decision r = none) : u.takeConfirm k x r false = u := by
  simp only [State.takeConfirm, Bool.false_eq_true, if_false, undecided]

end

/-- Settles O46: a recognised reply is decided by the table, and a mismatch is left undecided. -/
theorem confirmPollDecides : Obligations.ConfirmPollDecides := by
  intro s o k x serial r on outstanding poll raised used _ base
  rcases seen : recognised s o.conn serial with _ | y
  · have left := (handReply_poll raised (estranged_transfers (freed s o) o.conn serial) r true).trans
      (takeConfirm_mismatch _ k)
    exact replyRow_strange on outstanding raised used (r := .poll r) poll seen left
  · have gives {v : State} (handed : (polled (freed s o) o.conn y r).takeConfirm k x r false = v) :
        ∃ t, exec (.pollReply (unitAddress o.conn) o.tag serial r) s = .next t ∧ TransferTail (base v) t := by
      refine replyRow_known on outstanding raised used (r := .poll r) poll seen ?_
      have content : (withConn (freed s o) o.conn y).takeContent o.conn (.poll r) = polled (freed s o) o.conn y r :=
        takePoll_eq ..
      rw [content, handReply_poll (t := polled (freed s o) o.conn y r) raised rfl, handed]
    dsimp only
    rw [confirmed_eq]
    rcases decision : x.decision r with _ | e
    · exact gives (takeConfirm_undecided _ k decision)
    · have decided := takeConfirm_decided (polled (freed s o) o.conn y r) k decision
      rw [← raised.own] at decided
      exact gives decided

/-! ### The replies to ARM (R134, R135, R146) -/

/-- A refusal with LOCAL adds LOCAL to the record (R127). -/
theorem takeContent_localSwitch (s : State) (c : ConnId) (y : Connection) :
    (withConn s c y).takeContent c (.armRefused .localSwitch) =
      withConn s c { y with pins := { y.pins with localSwitch := true } } :=
  setConn_modConn s c y fun z => { z with pins := { z.pins with localSwitch := true } }

/-- The record of a connection whose unit has refused to arm: FAULTED for a fault, else IDLE again (R135). -/
def refusedRecord (y : Connection) : ArmRefusal → Connection
  | .fault => { y with motion := .faulted, faultCause := some .unitFault }
  | .localSwitch | .busy => idled y

/-- The record of a transfer's connection is written last by the transfer's end. -/
theorem ended_withConn (s : State) (k : CtxId) (x : Context) (y z : Connection) (e : LogOutcome) (disarm : Bool) :
    ended (withConn s x.order.conn z) k x y e disarm = ended s k x y e disarm := by
  simp only [ended, withConn, Vector.set_set]
  rfl

section
variable (u : State) (k : CtxId) {x : Context}

/-- A mismatch ends the transfer REFUSED, whatever the reply to ARM (R146). -/
theorem takeArmed_mismatch : u.takeArmed k x true = ended u k x (idled (u.conn x.order.conn)) .refused true := by
  rw [State.takeArmed, if_pos rfl, endTransfer_eq_ended]
  rfl

theorem takeRefusal_mismatch (reason : ArmRefusal) :
    u.takeRefusal k x reason true = ended u k x (idled (u.conn x.order.conn)) .refused true := by
  rw [State.takeRefusal, if_pos rfl, endTransfer_eq_ended]
  rfl

/-- ARMED makes the context ARMED and starts its arm deadline (R134). -/
theorem takeArmed_withConn {c : ConnId} (own : c = x.order.conn) (y : Connection) :
    (withConn u c y).takeArmed k x false =
      inContext u k { x with state := .armed, armDeadline := x.armHoldSent } y .armed := by
  subst own
  rw [State.takeArmed, if_neg Bool.false_ne_true]
  exact congrArg (fun v : State => v.withTransfers (u.transfers.put k (some _)))
    (setConn_modConn u x.order.conn y fun z => { z with motion := .armed })

/-- A refusal ends the transfer REFUSED (R135). -/
theorem takeRefusal_withConn {c : ConnId} (own : c = x.order.conn) (y : Connection) (reason : ArmRefusal) :
    (withConn u c y).takeRefusal k x reason false =
      ended u k x (refusedRecord y reason) .refused false := by
  subst own
  have record : (withConn u x.order.conn y).conn x.order.conn = y := State.setConn_conn_self ..
  rw [State.takeRefusal, if_neg Bool.false_ne_true, endTransfer_eq_ended, ended_withConn, record]
  cases reason <;> rfl

end

/-- A removal leaves the bus, the contexts, the hold and the deferral. -/
theorem withRemoval_frame (s : State) (c : ConnId) (old : Connection) : withRemoval s c old = { s with
    queue := (withRemoval s c old).queue, log := (withRemoval s c old).log, conns := (withRemoval s c old).conns,
    engine := (withRemoval s c old).engine } := by
  have removal (o : Order) (e : LogOutcome) : removed s o e = { s with
      queue := (removed s o e).queue, log := (removed s o e).log, conns := (removed s o e).conns,
      engine := (removed s o e).engine } := by
    rw [removed, engineTold_frame]
  unfold withRemoval
  dsimp only
  split
  · rfl
  · split_ifs
    · exact removal ..
    · exact removal ..
    · exact removal ..
    · rfl

/-! ### The FIRE of an ARMED context (R131) -/

/-- The bus is free, and of the contexts this one alone waits, with its FIRE and the fire slot. -/
structure FiresNext (s : State) (k : CtxId) (x : Context) (tag : Byte) : Prop where
  free : s.bus.outstanding = none
  tag : s.bus.tag = tag
  slot : s.transfers.fireSlot = some k
  waits : Waits s .fire k x
  alone : ∀ j y, Waits s .fire j y → j = k

section
variable {s : State} {k : CtxId} {x : Context} {tag : Byte}

/-- A dispatch raises an ARM and no FIRE. -/
theorem FiresNext.dispatchOnce (fires : FiresNext s k x tag) : FiresNext s.dispatchOnce k x tag := by
  unfold State.dispatchOnce
  split
  · split
    · next j o empty _ =>
      have other : k ≠ j := fun same => by
        have none := freeContext_none s j empty
        rw [← same, fires.waits.1] at none
        cases none
      refine ⟨fires.free, fires.tag, ?_, ⟨?_, fires.waits.2⟩, fun i y waits => ?_⟩
      · exact (Transfers.put_fireSlot ..).trans fires.slot
      · rw [dispatch_context, if_neg other, fires.waits.1]
      · obtain ⟨flight, fire⟩ := waits
        rw [dispatch_context] at flight
        split at flight
        · obtain rfl := Option.some.inj flight
          cases fire
        · exact fires.alone i y ⟨flight, fire⟩
    · exact fires
  · exact fires

/-- The arbiter sends it. -/
theorem FiresNext.arbitrate (fires : FiresNext s k x tag) : s.arbitrate.transfers.fireSlot = some k
    ∧ s.arbitrate.bus.outstanding = some ⟨x.order.conn, tag, .fire, .context x.dispatchNumber⟩ := by
  obtain ⟨j, y, waiting, waits, -⟩ := waitingRequest_of_waits fun none => none k x fires.waits
  obtain rfl := fires.alone j y waits
  obtain rfl := Option.some.inj (fires.waits.1.symm.trans waits.1)
  have sends : s.arbitrate = s.grantContext j x .fire := by simp [State.arbitrate, fires.free, waiting]
  rw [sends, ← fires.tag]
  exact ⟨(Transfers.put_fireSlot ..).trans fires.slot, rfl⟩

/-- An ARMED context takes the free fire slot, and its FIRE is sent in the same event. -/
theorem finishTransfer_fires (allowed : s.hold = ⟨false, false⟩) (restart : s.restartDeferred = false)
    (free : s.bus.outstanding = none) (slot : s.transfers.fireSlot = none) (flight : s.context k = some x)
    (armed : x.state = .armed)
    (alone : ∀ j z, s.context j = some z → j = k ∨ z.state ≠ .armed ∧ z.slot ≠ some .fire) :
    s.finishTransfer.transfers.fireSlot = some k
      ∧ s.finishTransfer.bus.outstanding = some ⟨x.order.conn, s.bus.tag, .fire, .context x.dispatchNumber⟩ := by
  have taken : s.takeFireSlot = slotTaken s k x :=
    takeFireSlot_taken slot (movesAllowed_of allowed restart) flight armed
      fun j y other state => .inl ((alone j y other).resolve_right fun apart => apart.1 state)
  have contexts (j : CtxId) : (slotTaken s k x).context j =
      if j = k then some { x with armDeadline := none, slot := some .fire } else s.context j :=
    Transfers.get_put ..
  have fires : FiresNext (slotTaken s k x) k { x with armDeadline := none, slot := some .fire } s.bus.tag := by
    refine ⟨free, rfl, rfl, ⟨(contexts k).trans (if_pos rfl), rfl⟩, fun j y waits => ?_⟩
    obtain ⟨other, fire⟩ := waits
    rw [contexts] at other
    split at other
    · assumption
    · exact (alone j y other).resolve_right fun apart => apart.2 fire
  rw [finishTransfer_eq_finish s (.inl restart), State.finish, taken]
  exact fires.dispatchOnce.dispatchOnce.arbitrate

/-- The removal that a reply brings stands in the way of nothing. -/
theorem finishTransfer_withRemoval_fires (c : ConnId) (old : Connection) (allowed : s.hold = ⟨false, false⟩)
    (restart : s.restartDeferred = false) (free : s.bus.outstanding = none) (slot : s.transfers.fireSlot = none)
    (flight : s.context k = some x) (armed : x.state = .armed)
    (alone : ∀ j z, s.context j = some z → j = k ∨ z.state ≠ .armed ∧ z.slot ≠ some .fire) :
    (withRemoval s c old).finishTransfer.transfers.fireSlot = some k
      ∧ (withRemoval s c old).finishTransfer.bus.outstanding =
        some ⟨x.order.conn, s.bus.tag, .fire, .context x.dispatchNumber⟩ := by
  have frame := withRemoval_frame s c old
  have bus : (withRemoval s c old).bus = s.bus := by rw [frame]
  have transfers : (withRemoval s c old).transfers = s.transfers := by rw [frame]
  have contexts (j : CtxId) : (withRemoval s c old).context j = s.context j := State.context_congr transfers j
  rw [← bus]
  refine finishTransfer_fires ?_ ?_ (bus ▸ free) (transfers ▸ slot) ((contexts k).trans flight) armed
    fun j z other => alone j z ((contexts j).symm.trans other)
  · rw [frame]
    exact allowed
  · rw [frame]
    exact restart

end

theorem inContext_context (s : State) (k j : CtxId) (x : Context) (y : Connection) (m : Motion) :
    (inContext s k x y m).context j = if j = k then some x else s.context j :=
  Transfers.get_put ..

/-- Settles O47: ARMED and the three refusals, recognised and as a mismatch, and the FIRE that follows ARMED. -/
theorem armReplies : Obligations.ArmReplies := by
  intro s o k x serial reason q dead hold on outstanding arm raised used base
  rcases seen : recognised s o.conn serial with _ | y
  · have own := congrArg (estranged (freed s o) o.conn serial).conn raised.own.symm
    have armed := (handReply_armed raised (estranged_transfers (freed s o) o.conn serial) true).trans
      (takeArmed_mismatch _ k)
    have refused := (handReply_armRefused raised (estranged_transfers (freed s o) o.conn serial) reason true).trans
      (takeRefusal_mismatch _ k reason)
    rw [own] at armed refused
    exact ⟨replyRow_strange on outstanding raised used (r := .armed) ⟨q, dead, hold, arm⟩ seen armed,
      replyRow_strange on outstanding raised used (r := .armRefused reason) ⟨q, dead, hold, arm⟩ seen refused⟩
  constructor
  · have armed : (withConn (freed s o) o.conn y).handReply o .armed false = inContext (freed s o) k
        { x with state := .armed, armDeadline := x.armHoldSent } y .armed :=
      (handReply_armed (t := withConn (freed s o) o.conn y) raised rfl false).trans
        (takeArmed_withConn (freed s o) k raised.own y)
    obtain ⟨t, row, tail⟩ := replyRow_known on outstanding raised used (r := .armed) ⟨q, dead, hold, arm⟩ seen armed
    refine ⟨t, row, tail, fun slot allowed restart alone => ?_⟩
    rw [show t = _ from tail, raised.own]
    have contexts (j : CtxId) := inContext_context (freed s o) k j
      { x with state := .armed, armDeadline := x.armHoldSent } y .armed
    refine finishTransfer_withRemoval_fires (x := { x with state := .armed, armDeadline := x.armHoldSent }) _ _ allowed
      restart rfl ((Transfers.put_fireSlot ..).trans slot) ((contexts k).trans (if_pos rfl)) rfl fun j z other => ?_
    rw [contexts] at other
    split at other
    · exact .inl ‹_›
    · exact alone j z other
  · have refused (z : Connection) : (withConn (freed s o) o.conn z).handReply o (.armRefused reason) false =
        ended (freed s o) k x (refusedRecord z reason) .refused false :=
      (handReply_armRefused (t := withConn (freed s o) o.conn z) raised rfl reason false).trans
        (takeRefusal_withConn (freed s o) k raised.own z reason)
    have gives {z w : Connection} (content : (withConn (freed s o) o.conn y).takeContent o.conn (.armRefused reason) =
        withConn (freed s o) o.conn z) (record : refusedRecord z reason = w) :
        ∃ t, exec (.armRefused (unitAddress o.conn) o.tag serial reason) s = .next t
          ∧ TransferTail (base (ended (freed s o) k x w .refused false)) t :=
      replyRow_known on outstanding raised used (r := .armRefused reason) ⟨q, dead, hold, arm⟩ seen
        (by rw [content, refused, record])
    cases reason with
    | localSwitch => exact gives (takeContent_localSwitch (freed s o) o.conn y) rfl
    | busy => exact gives rfl rfl
    | fault => exact gives rfl rfl

end Sys2Proof.Claims

/-!
PROOFS. The lapses of a context's requests (R136, R140): ARM and FIRE raised again while a retry is left, and the end of
the transfer after that.
-/

namespace Sys2Proof.Claims

open Sys2Proof.Machine

/-! ### A lapse handed to the context that raised its request -/

section
variable {s t : State} {o : Outstanding} {k : CtxId} {x : Context}

theorem handLapse_arm (raised : RaisedBy s o k x) (transfers : t.transfers = s.transfers) {q : Phase} {dead hold : Nat}
    (arm : o.request = .arm q dead hold) : t.handLapse o = t.lapseArm k x := by
  obtain ⟨raiser, found⟩ := raised.found transfers
  simp only [State.handLapse, raiser, found, arm]

theorem handLapse_fire (raised : RaisedBy s o k x) (transfers : t.transfers = s.transfers) (fire : o.request = .fire) :
    t.handLapse o = t.lapseFire k x := by
  obtain ⟨raiser, found⟩ := raised.found transfers
  simp only [State.handLapse, raiser, found, fire]

theorem exec_lapse (on : s.powered = true) (outstanding : s.bus.outstanding = some o) :
    exec .lapse s = .next (s.lapseOutstanding o) := by
  show execLapse s = _
  rw [execLapse, outstanding]
  exact whilePowered_on on _

/-- A lapse of a context's request is one for presence, and then its context's. -/
theorem exec_lapse_raised (on : s.powered = true) (outstanding : s.bus.outstanding = some o) (raised : RaisedBy s o k x)
    (used : (s.config o.conn).kind ≠ .unused) (handed : (lapsed (freed s o) o.conn).handLapse o = t) :
    ∃ u, exec .lapse s = .next u ∧ TransferTail (withRemoval t o.conn (s.conn o.conn)) u := by
  refine ⟨_, exec_lapse on outstanding, ?_⟩
  rw [TransferTail, lapseOutstanding_used used, ← raised.freed_eq, handed]

end

/-! ### The retries and the two ends -/

section
variable (u : State) (k : CtxId) (x : Context)

/-- ARM is raised again twice, then the transfer ends NO_REPLY (R136). -/
theorem lapseArm_eq : u.lapseArm k x =
    if x.retries < 2 then withContext u k { x with retries := x.retries + 1, slot := some .arm }
    else ended u k x (idled (u.conn x.order.conn)) .noReply true := by
  rw [State.lapseArm, endTransfer_eq_ended]
  rfl

/-- FIRE is raised again once, unless a hold or a restart deferral stands; then nobody knows whether the contact moved
(R140). -/
theorem lapseFire_eq : u.lapseFire k x =
    if x.fireRetried = false ∧ u.hold = ⟨false, false⟩ ∧ u.restartDeferred = false then
      withContext u k { x with fireRetried := true, slot := some .fire }
    else ended u k x (unconfirmedRecord u (u.conn x.order.conn)) .unconfirmed true := by
  simp only [State.lapseFire, movesAllowed_iff, endTransfer_eq_ended]
  rfl

end

/-- Settles O50: the lapse is one for presence, and then the context's, which retries or ends. -/
theorem lapsesOfArmAndFire : Obligations.LapsesOfArmAndFire := by
  intro s o k x on outstanding raised used base u y
  have frame : u = { freed s o with conns := u.conns, alarms := u.alarms } := lapsed_frame (freed s o) o.conn
  have transfers : u.transfers = s.transfers := by rw [frame]; rfl
  have settings : u.settings = s.settings := by rw [frame]; rfl
  have hold : u.hold = s.hold := by rw [frame]; rfl
  have deferral : u.restartDeferred = s.restartDeferred := by rw [frame]; rfl
  have own : u.conn x.order.conn = y := congrArg u.conn raised.own.symm
  have gives {v : State} (handed : u.handLapse o = v) : ∃ t, exec .lapse s = .next t ∧ TransferTail (base v) t :=
    exec_lapse_raised on outstanding raised used handed
  refine ⟨fun q dead armHold arm => ?_, fun fire => ?_⟩
  · have lapse := (handLapse_arm raised transfers arm).trans (lapseArm_eq u k x)
    rw [own] at lapse
    split
    · next left => exact gives (lapse.trans (if_pos left))
    · next spent => exact gives (lapse.trans (if_neg spent))
  · have lapse := (handLapse_fire raised transfers fire).trans (lapseFire_eq u k x)
    rw [own, hold, deferral, unconfirmedRecord, State.setting_congr settings] at lapse
    split
    · next again => exact gives (lapse.trans (if_pos again))
    · next spent => exact gives (lapse.trans (if_neg spent))

end Sys2Proof.Claims

/-!
PROOFS. Two requests of a master and the end of a save: SAVE_SETTINGS and SAVE_END with the restart that the save held
(R189, R191, R192), and CLEAR_FAULT (R151).
-/

namespace Sys2Proof.Claims

open Sys2Proof.Machine

/-! ### Saving (R189) -/

theorem exec_saveSettings {s : State} {p : Port} (ready : Ready s p) (master : p ≠ .pp) :
    exec (.saveSettings p []) s =
      (let r := serveSaveSettings (taken s p)
       .next (answered r.state p 0xBB r.status.byte r.data)) := by
  have permitted : Command.saveSettings.permitted p = true := bne_iff_ne.mpr master
  rw [exec_saveSettings_ready p _ s ready.1 ready.2 permitted rfl, serve_saveSettings]
  rfl

theorem exec_saveEnd_idle {s : State} (on : s.powered = true) (idle : s.saving = none) : exec .saveEnd s = .next s :=
  (whilePowered_on on _).trans (by rw [idle])

theorem exec_saveEnd_saving {s : State} (on : s.powered = true) {copy : Settings} (saving : s.saving = some copy) :
    exec .saveEnd s = .next { s with image := some copy, saving := none }.finishTransfer :=
  (whilePowered_on on _).trans (by rw [saving]; rfl)

/-- Settles O33: the copy is taken once, and its end is an event that may let a restart take effect. -/
theorem savesKeepACopy : Obligations.SavesKeepACopy := by
  refine ⟨fun s p ready master => ?_, fun s on => ⟨exec_saveEnd_idle on, fun copy saving => ?_⟩⟩
  · have flag : (taken s p).saving = s.saving := rfl
    rw [exec_saveSettings ready master, serveSaveSettings, flag]
    split
    · rfl
    · rfl
  · intro u
    obtain ⟨restarts, goesOn⟩ := restartReloads.2 u u.finishTransfer rfl
    refine ⟨_, exec_saveEnd_saving on saving, rfl, by simp, by simp, fun kept => ?_, fun deferred free => ?_⟩
    · have tail : Tail u u.finishTransfer := goesOn kept
      refine ⟨tail, ?_⟩
      rw [show u.finishTransfer = u.finish from tail]
      simp [u]
    · obtain ⟨restarted, ports⟩ := restarts deferred free
      have ⟨_, _, _, _, settings, _⟩ := restarted
      exact ⟨restarted, settings, ports⟩

/-! ### CLEAR_FAULT (R151) -/

theorem exec_clearFault {s : State} {p : Port} (ready : Ready s p) (master : p ≠ .pp) (n : Byte) :
    exec (.clearFault p [n]) s =
      (let r := serveClearFault n (taken s p)
       .next (answered r.state p 0xAA r.status.byte r.data)) := by
  have permitted : Command.clearFault.permitted p = true := bne_iff_ne.mpr master
  rw [exec_clearFault_ready p _ s ready.1 ready.2 permitted rfl, serve_clearFault]
  rfl

theorem clearable_eq (x : Connection) :
    x.clearable = x.lastReport.any fun r => r.closedPhase.isSome && !r.contactFault := by
  unfold Connection.clearable
  rcases x.lastReport with _ | r
  · rfl
  · rfl

/-- Settles O27: the number is looked up, then the motion, then the last poll report. -/
theorem clearFaultNeedsAGoodReport : Obligations.ClearFaultNeedsAGoodReport := by
  intro s p n ready master
  rw [exec_clearFault ready master, serveClearFault]
  refine ⟨fun outside => ?_, fun c number => ?_⟩
  · rw [readConn_eq_none outside]
    rfl
  · intro x
    have record : (taken s p).conn c = x := rfl
    simp only [readConn_of_val number, record, clearable_eq]
    split
    · rfl
    · split
      · rfl
      · rfl

end Sys2Proof.Claims

/-!
PROOFS. The attention lines follow the sets and masks after every step (R162, R165, R166): most events end by setting
the lines, and every other part of a step leaves the lines, the alarm sets and the masks as they stand.
-/

namespace Sys2Proof.Claims

open Sys2Proof.Machine

/-! ### What keeps the lines -/

/-- The agreement is about the lines, the alarm sets and the masks alone. -/
theorem LinesFollow.congr {s t : State} (h : LinesFollow s) (lines : t.attention = s.attention)
    (sets : t.alarms = s.alarms) (masks : t.settings.masks = s.settings.masks) : LinesFollow t := by
  unfold LinesFollow
  rw [lines, sets, masks]
  exact h

theorem lines_finish (s : State) : LinesFollow s.finish := (finish_effects s).2

/-- The end of an event that may end a transfer sets the lines last, after a restart too (R166). -/
theorem lines_finishTransfer (s : State) : LinesFollow s.finishTransfer := lines_setLines _

theorem lines_ite {p : Prop} [Decidable p] {s t : State} (hs : LinesFollow s) (ht : LinesFollow t) :
    LinesFollow (if p then s else t) := by
  split
  · exact hs
  · exact ht

theorem arbitrate_keepsLines {s : State} (h : LinesFollow s) : LinesFollow s.arbitrate :=
  h.congr (by simp) (by simp) (by simp)

theorem reviewStopping_keepsLines {s : State} (h : LinesFollow s) : LinesFollow s.reviewStopping :=
  h.congr (by simp) (by simp) (by simp)

/-- Disarming the contexts raises no alarm: their orders return, or end WITHDRAWN (R147, R149). -/
theorem reachContexts_keepsLines {s : State} (h : LinesFollow s) : LinesFollow s.reachContexts :=
  h.congr (by simp) (reachContexts_alarms s) (by simp)

theorem confirmTick_keepsLines {s : State} (h : LinesFollow s) (k : CtxId) (x : Context) :
    LinesFollow (s.confirmTick k x) :=
  arbitrate_keepsLines (h.congr (by simp) (by simp) (by simp))

/-! ### The requests -/

theorem lines_admitMove (s : State) (p : Port) (c : ConnId) (target : Phase) (priority life : Nat)
    (how evicted : Byte) : LinesFollow (s.admitMove p c target priority life how evicted).state := lines_finish _

theorem placeMove_keepsLines {s : State} (h : LinesFollow s) (p : Port) (c : ConnId) (target : Phase)
    (priority life : Nat) : LinesFollow (s.placeMove p c target priority life).state := by
  unfold State.placeMove
  repeat' split
  · exact lines_admitMove _ p c target priority life _ _
  · exact h
  · exact lines_admitMove s p c target priority life _ _
  · exact lines_admitMove _ p c target priority life _ _
  · exact h

theorem serveMove_keepsLines {s : State} (h : LinesFollow s) (p : Port) (n target priority : Byte) (life : Half) :
    LinesFollow (serveMove p n target priority life s).state := by
  unfold serveMove
  split
  · exact h
  · split
    · exact h
    · split
      · exact h
      · split
        · exact h
        · exact placeMove_keepsLines h p _ _ _ _

/-- A numeric setting is stored beside the masks (R71, R172). -/
theorem store_masks (st : Settings) (id : SettingId) (n : Nat) : (st.store id n).1.masks = st.masks := by
  rw [store_settings, settingStored]

theorem settingWritten_keepsLines {s : State} (h : LinesFollow s) (id : SettingId) :
    LinesFollow (s.settingWritten id) :=
  lines_ite (reviewStopping_keepsLines h) (lines_ite (lines_finish s) h)

theorem serveWriteSetting_keepsLines {s : State} (h : LinesFollow s) (n : Byte) (value : Word) :
    LinesFollow (serveWriteSetting n value s).state := by
  have stored : ∀ id v, LinesFollow (s.withSettings (s.settings.store id v).1) := fun id v =>
    h.congr rfl rfl (store_masks s.settings id v)
  unfold serveWriteSetting
  repeat' split
  · exact h
  · exact h
  · exact h
  · exact settingWritten_keepsLines (stored _ _) _

theorem writeConfig_keepsLines {s : State} (h : LinesFollow s) (c : ConnId) (g : ConnConfig) :
    LinesFollow (s.writeConfig c g) := by
  unfold State.writeConfig
  exact lines_ite (h.congr rfl rfl rfl) (h.congr rfl rfl rfl)

theorem serve_keepsLines (c : Command) (p : Port) (params : List Byte) {s : State}
    (fits : params.length = c.paramBytes) (h : LinesFollow s) : LinesFollow (serve c p params s).state := by
  apply serve_cases_of_reads (fits := fits)
  case same => exact h
  case move => exact serveMove_keepsLines h p
  case cancel =>
    intro n
    unfold serveCancel
    repeat' split
    · exact h
    · exact lines_finish _
    · exact h
    · exact h
  case reprioritize =>
    intro n priority
    unfold serveReprioritize
    repeat' split
    · exact h
    · exact h
    · exact lines_finish _
    · exact h
    · exact h
  case pin =>
    intro n
    unfold servePin
    repeat' split
    · exact h
    · exact h
    · exact h
    · exact lines_finish _
  case unpin =>
    intro n
    unfold serveUnpin
    repeat' split
    · exact h
    · exact lines_finish _
    · exact h
  case unpinAll =>
    unfold serveUnpinAll
    dsimp only
    split
    · exact h
    · exact lines_finish _
  case hold => exact lines_ite (lines_finish _) (h.congr rfl rfl rfl)
  case release => exact lines_ite (lines_finish _) (h.congr rfl rfl rfl)
  case pause =>
    unfold servePause
    split
    · exact h
    · exact reviewStopping_keepsLines (h.congr rfl rfl rfl)
  case resume =>
    unfold serveResume
    split
    · exact reviewStopping_keepsLines (h.congr rfl rfl rfl)
    · exact h
  case clearFault =>
    intro n
    unfold serveClearFault
    dsimp only
    repeat' split
    · exact h
    · exact h
    · exact h.congr rfl rfl rfl
    · exact h
  case survey =>
    unfold serveSurvey
    split
    · exact h
    · exact arbitrate_keepsLines (h.congr rfl rfl rfl)
  case clearAlarms => exact fun _ => lines_setLines _
  case setAlarmMask => exact fun _ => lines_setLines _
  case writeSetting => exact serveWriteSetting_keepsLines h
  case writeConnection =>
    intro n kind allowed serial
    unfold serveWriteConnection
    repeat' split
    · exact h
    · exact h
    · exact h
    · exact h
    · exact writeConfig_keepsLines h _ _
  case writeTrigger =>
    intro n enabled phases quantity comparison threshold persistence
    unfold serveWriteTrigger
    repeat' split
    · exact h
    · exact h
    · exact h.congr rfl rfl rfl
    · exact h
  case saveSettings =>
    unfold serveSaveSettings
    split
    · exact h
    · exact h.congr rfl rfl rfl
  case restart =>
    unfold serveRestart
    split
    · exact h
    · exact reachContexts_keepsLines (h.congr rfl rfl rfl)
  case setTime =>
    intro time
    exact lines_ite (h.congr (by simp) (by simp) (by simp)) (lines_finish _)

/-! ### Every step -/

theorem goodReply_lines (s : State) (o : Outstanding) (serial : Word) (r : Reply) :
    LinesFollow (s.goodReply o serial r) := lines_ite (lines_finishTransfer _) (lines_finishTransfer _)

theorem lapseOutstanding_lines (s : State) (o : Outstanding) : LinesFollow (s.lapseOutstanding o) :=
  lines_ite (lines_finishTransfer _) (lines_finishTransfer _)

theorem survives_linesFollow : Survives LinesFollow where
  pending _ _ h := h.congr rfl rfl rfl
  setPort _ _ _ h := h.congr rfl rfl rfl
  setRx _ _ h := h.congr rfl rfl rfl
  serve c p params _ fits h := serve_keepsLines c p params fits h
  finishTransfer s _ := lines_finishTransfer s
  acceptWindow _ _ _ := lines_finish _
  goodReply s o serial r _ _ _ := goodReply_lines s o serial r
  lapseOutstanding s o _ _ := lapseOutstanding_lines s o
  powerOn s t _ e := by
    injection e with e
    exact e ▸ lines_setLines _
  supplyLost s t h e := by
    injection e with e
    exact e ▸ lines_ite (h.congr rfl rfl rfl) h
  oneSecond _ _ h e := whilePowered_keeps h (lines_finish _) e
  saveEnd s t h e := by
    refine whilePowered_keeps h ?_ e
    split
    · exact h
    · exact lines_finishTransfer _
  restart _ _ h e := whilePowered_keeps h (lines_ite (lines_setLines _) h) e
  quietCount _ _ h e := whilePowered_keeps h (lines_ite (lines_finish _) h) e
  staleness _ _ h e := whilePowered_keeps h (lines_ite (lines_setLines _) h) e
  routineSpacing s t h e := by
    have raised : ∀ b, LinesFollow (s.withBus b) := fun _ => h.congr rfl rfl rfl
    exact whilePowered_keeps h (lines_ite (arbitrate_keepsLines (raised _)) h) e
  surveyTimer _ _ h e := whilePowered_keeps h (arbitrate_keepsLines (h.congr (by simp) (by simp) (by simp))) e
  arrivalHold _ _ _ h e := whilePowered_keeps h (lines_ite (lines_finish _) h) e
  settle _ _ _ h e := whilePowered_keeps h (lines_ite (lines_finish _) h) e
  expired _ _ _ h e := whilePowered_keeps h (lines_ite (lines_finish _) h) e
  armDeadline k s t h e := by
    refine whilePowered_keeps h ?_ e
    split
    · exact h
    · exact lines_ite (lines_finish _) h
  confirmTimer k s t h e := by
    refine whilePowered_keeps h ?_ e
    split
    · exact h
    · exact lines_ite (confirmTick_keepsLines h k _) h
  confirmDeadline k s t h e := by
    refine whilePowered_keeps h ?_ e
    split
    · exact h
    · exact lines_ite (lines_finishTransfer _) h

/-- Settles O56: a step is made of parts that set the lines last, or leave the lines, the sets and the masks alone. -/
theorem everyStepKeepsTheLines : Obligations.EveryStepKeepsTheLines :=
  fun _ _ follow step => survives_linesFollow.step follow step

end Sys2Proof.Claims

/-!
PROOFS. The requests that take a member out of a set: UNPIN and UNPIN_ALL (R160), CLEAR_ALARMS and SET_ALARM_MASK
(R163 to R165).
-/

namespace Sys2Proof.Claims

open Sys2Proof.Machine

/-! ### UNPIN (R160) -/

theorem exec_unpin {s : State} {p : Port} (ready : Ready s p) (n : Byte) : exec (.unpin p [n]) s =
    (let r := serveUnpin p n (taken s p)
     .next (answered r.state p 0x99 r.status.byte r.data)) := by
  rw [exec_unpin_ready p [n] s ready.1 ready.2 (by cases p <;> rfl) rfl, serve_unpin]
  rfl

theorem exec_unpinAll {s : State} {p : Port} (ready : Ready s p) : exec (.unpinAll p []) s =
    (let r := serveUnpinAll p (taken s p)
     .next (answered r.state p 0x9A r.status.byte r.data)) := by
  rw [exec_unpinAll_ready p [] s ready.1 ready.2 (by cases p <;> rfl) rfl, serve_unpinAll]
  rfl

/-- A port that is not a member changes nothing by UNPIN. -/
theorem serveUnpin_absent {s : State} {p : Port} {n : Byte} {c : ConnId} (number : n.toNat = c.val)
    (absent : (s.conn c).pins.has p = false) : serveUnpin p n s = ⟨s, .ok, [pinsCode (s.conn c).pins]⟩ := by
  rw [serveUnpin, readConn_of_val number, pinsCode_eq]
  exact if_neg (Bool.eq_false_iff.mp absent)

/-- A member leaves by UNPIN; the last parts of the event change no pin set, so the response shows the set it left. -/
theorem serveUnpin_member {s : State} {p : Port} {n : Byte} {c : ConnId} (number : n.toNat = c.val)
    (member : (s.conn c).pins.has p = true) :
    serveUnpin p n s = ⟨(s.setPin c p false).finish, .ok, [pinsCode ((s.conn c).pins.put p false)]⟩ := by
  have left : ((s.setPin c p false).finish.conn c).pins = (s.conn c).pins.put p false :=
    (pins_of_stilled (finish_stilled _) c).trans (congrArg Connection.pins (State.modConn_conn_self s c _))
  rw [serveUnpin, readConn_of_val number, pinsCode_eq, ← left]
  exact if_pos member

/-! ### UNPIN_ALL (R160) -/

/-- The port has left every pin set. -/
def unpinnedAll (s : State) (p : Port) : State :=
  { s with conns := Vector.ofFn fun c => { s.conn c with pins := (s.conn c).pins.put p false } }

theorem serveUnpinAll_none {s : State} {p : Port} (nowhere : s.pinnedBy p = []) :
    serveUnpinAll p s = ⟨s, .ok, [0]⟩ := if_pos (congrArg List.length nowhere)

theorem serveUnpinAll_some {s : State} {p : Port} (somewhere : s.pinnedBy p ≠ []) :
    serveUnpinAll p s = ⟨(unpinnedAll s p).finish, .ok, [byteOf (s.pinnedBy p).length]⟩ :=
  if_neg (mt List.length_eq_zero_iff.mp somewhere)

/-- Settles O22: a member that leaves is followed by the last parts of the event, and with none nothing changes. -/
theorem unpinRemovesOwnPin : Obligations.UnpinRemovesOwnPin := by
  intro s p ready
  refine ⟨fun n outside => ?_, fun n c number => ?_, ?_⟩
  · rw [exec_unpin ready, serveUnpin, readConn_eq_none outside]
    rfl
  · intro x pins
    rw [exec_unpin ready]
    split
    · next absent =>
      rw [serveUnpin_absent (s := taken s p) number absent]
      rfl
    · next member =>
      rw [serveUnpin_member (s := taken s p) number (Bool.not_eq_false _ ▸ member)]
      exact ⟨_, rfl, tail_answered ((taken s p).setPin c p false) p 0x99 0x00 [pinsCode pins]⟩
  · intro held
    rw [exec_unpinAll ready]
    split
    · next nowhere =>
      rw [serveUnpinAll_none (s := taken s p) nowhere]
      rfl
    · next somewhere =>
      rw [serveUnpinAll_some (s := taken s p) somewhere]
      exact ⟨_, rfl, tail_answered (unpinnedAll (taken s p) p) p 0x9A 0x00 [byteOf held.length]⟩

/-! ### CLEAR_ALARMS and SET_ALARM_MASK (R163 to R165) -/

theorem exec_clearAlarms {s : State} {p : Port} (ready : Ready s p) (named : Byte) : exec (.clearAlarms p [named]) s =
    (let r := serveClearAlarms p named (taken s p)
     .next (answered r.state p 0xB0 r.status.byte r.data)) := by
  rw [exec_clearAlarms_ready p [named] s ready.1 ready.2 (by cases p <;> rfl) rfl, serve_clearAlarms]
  rfl

theorem exec_setAlarmMask {s : State} {p : Port} (ready : Ready s p) (mask : Byte) :
    exec (.setAlarmMask p [mask]) s =
      (let r := serveSetAlarmMask p mask (taken s p)
       .next (answered r.state p 0xB1 r.status.byte r.data)) := by
  rw [exec_setAlarmMask_ready p [mask] s ready.1 ready.2 (by cases p <;> rfl) rfl, serve_setAlarmMask]
  rfl

/-- A condition stays when it is not named, or when it is kept (R163). -/
theorem alarmSet_has_clear (v named kept : AlarmSet) (a : Alarm) : (v.clear named kept).has a = true ↔
    v.has a = true ∧ (named.has a = false ∨ kept.has a = true) := by
  cases a <;> simp [AlarmSet.clear, AlarmSet.has]

/-- Every bit of a byte names a condition, so a set that is read is sent as the byte it was (R176). -/
theorem alarmSet_byte_ofByte : ∀ b : Byte, (AlarmSet.ofByte b).byte = b := by decide

/-- The named conditions have left the port's set, but for the live level conditions (R163). -/
def alarmsCleared (s : State) (p : Port) (named : Byte) : State :=
  { s with alarms := s.alarms.set p ((s.alarms.get p).clear (alarmsNamed named) s.liveLevels) }

/-- The port's mask has been replaced (R164). -/
def maskSet (s : State) (p : Port) (mask : Byte) : State :=
  { s with settings := { s.settings with masks := s.settings.masks.set p (alarmsNamed mask) } }

theorem serveClearAlarms_eq (s : State) (p : Port) (named : Byte) : serveClearAlarms p named s =
    ⟨(alarmsCleared s p named).setLines, .ok, [alarmsCode ((alarmsCleared s p named).alarms.get p)]⟩ := by
  rw [alarmsCode_eq]
  rfl

theorem serveSetAlarmMask_eq (s : State) (p : Port) (mask : Byte) :
    serveSetAlarmMask p mask s = ⟨(maskSet s p mask).setLines, .ok, [mask]⟩ := by
  have shown : ((maskSet s p mask).settings.masks.get p).byte = mask := by
    rw [maskSet, PerPort.get_set_self]
    exact alarmSet_byte_ofByte mask
  exact congrArg (fun b => (⟨(maskSet s p mask).setLines, .ok, [b]⟩ : Answer)) shown

/-- A response begun after the lines were set leaves them. -/
theorem lines_answered (s : State) (p : Port) (code status : Byte) (data : List Byte) :
    LinesFollow (answered s.setLines p code status data) := (lines_setLines s).congr rfl rfl rfl

/-- Settles O25: one port's set or mask changes, the lines are set, and the port begins its response. -/
theorem alarmRequestsTouchOnePort : Obligations.AlarmRequestsTouchOnePort := by
  intro s p named ready
  rw [exec_clearAlarms ready, exec_setAlarmMask ready, serveClearAlarms_eq, serveSetAlarmMask_eq]
  constructor
  · have own : (alarmsCleared (taken s p) p named).alarms.get p =
        (s.alarms.get p).clear (alarmsNamed named) s.liveLevels := PerPort.get_set_self _ p _
    refine ⟨_, rfl, fun a => ?_, fun q other => ?_, lines_answered _ p _ _ _, answers_answered rfl _ _ _, rfl⟩
    · show ((alarmsCleared (taken s p) p named).alarms.get p).has a = true ↔ _
      rw [own]
      exact alarmSet_has_clear _ _ _ a
    · exact (PerPort.get_set s.alarms p q _).trans (if_neg other)
  · exact ⟨_, rfl, rfl, lines_answered _ p _ _ _, answers_answered rfl _ _ _, rfl⟩

end Sys2Proof.Claims

/-!
PROOFS. Frames and requests on the master ports (R167 to R173, R184): a good frame, the checks before a command, the
reading requests, and reception byte by byte.
-/

namespace Sys2Proof.Claims

open Sys2Proof.Machine

/-! ### A good frame (R168) -/

theorem exec_frameBuffered {s : State} (on : s.powered = true) (p : Port) (payload : List Byte) :
    exec (.frameBuffered p payload) s = .next ((taken s p).goodFrame p payload) := whilePowered_on on _

/-- A good frame on a port that transmits no response is taken at once. -/
theorem goodFrame_waiting {s : State} {p : Port} (waiting : (s.ports.get p).response = none) (code : Byte)
    (params : List Byte) : s.goodFrame p (code :: params) = s.takeRequest p code params := by
  simp [State.goodFrame, State.port, waiting]

/-- A good frame during a response is buffered or counted as an overrun. -/
theorem goodFrame_responding {s : State} {p : Port} {payload : List Byte}
    (responding : (s.ports.get p).response.isSome = true) : (taken s p).goodFrame p payload =
      { s with ports := s.ports.set p (heldBack (s.ports.get p) payload) } := by
  obtain ⟨r, response⟩ := Option.isSome_iff_exists.mp responding
  have own : (taken s p).port p = { s.ports.get p with rx := none } := PerPort.get_set_self _ p _
  unfold State.goodFrame heldBack
  simp only [own, response]
  rcases (s.ports.get p).buffered with _ | held
  all_goals
    simp only [State.setPort, taken, PerPort.set_set]
    rfl

theorem commandCode_eq (c : Command) : (codeAndLength c).1 = c.code := by cases c <;> rfl

theorem commandLength_eq (c : Command) : (codeAndLength c).2 = c.paramBytes := by cases c <;> rfl

/-- Every request row is the good frame of its command's code and parameters. -/
theorem exec_requestRow (s : State) (c : Command) (p : Port) (params : List Byte) :
    exec (requestRow c p params) s = exec (.frameBuffered p (c.code :: params)) s := by cases c <;> rfl

/-- Settles O7: what R168 does with a good frame, and the rows that are good frames. -/
theorem frameDuringAResponseIsBuffered : Obligations.FrameDuringAResponseIsBuffered := by
  refine ⟨fun s p payload on responding => ?_, fun s c p params => ?_, fun s p code params => rfl⟩
  · rw [exec_frameBuffered on, goodFrame_responding responding]
  · rw [exec_requestRow, commandCode_eq]

/-! ### The checks before a command (R169) -/

theorem permitted_iff (c : Command) (p : Port) : c.permitted p = true ↔ p ∈ portsOf c := by
  cases c <;> cases p <;> decide

/-- A code that is none of the table's names no command (R171). -/
theorem ofCode_eq_none {code : Byte} (unknown : ∀ c, (codeAndLength c).1 ≠ code) : Command.ofCode code = none := by
  have codes : ∀ e ∈ commandCodes, (codeAndLength e.1).1 = e.2 := by decide
  refine congrArg (Option.map _) (List.find?_eq_none.mpr fun e member equal => unknown e.1 ?_)
  exact (codes e member).trans (beq_iff_eq.mp equal)

theorem takeRequest_unknown (s : State) (p : Port) {code : Byte} (params : List Byte)
    (unknown : Command.ofCode code = none) : s.takeRequest p code params = s.respond p code .unknownCommand [] := by
  simp [State.takeRequest, unknown]

theorem takeRequest_badLength (s : State) (c : Command) {p : Port} {params : List Byte}
    (permitted : c.permitted p = true) (wrong : params.length ≠ c.paramBytes) :
    s.takeRequest p c.code params = s.respond p c.code .badLength [] := by
  simp [State.takeRequest, Command.ofCode_code, permitted, wrong]

theorem exec_frameBuffered_ready {s : State} {p : Port} (ready : Ready s p) (code : Byte) (params : List Byte) :
    exec (.frameBuffered p (code :: params)) s = .next ((taken s p).takeRequest p code params) := by
  have waiting : ((taken s p).ports.get p).response = none := by simpa [taken] using ready.2
  rw [exec_frameBuffered ready.1, goodFrame_waiting waiting]

/-- Settles O9: the first check that fails gives the response, and nothing else happens. -/
theorem checksBeforeACommand : Obligations.ChecksBeforeACommand := by
  refine ⟨fun s p code params ready unknown => ?_, fun s c p params ready => ?_⟩
  · show exec (.frameBuffered p (code :: params)) s = _
    rw [exec_frameBuffered_ready ready, takeRequest_unknown _ _ _ (ofCode_eq_none unknown)]
    rfl
  · rw [exec_requestRow, exec_frameBuffered_ready ready, commandCode_eq, commandLength_eq, ← permitted_iff]
    refine ⟨fun forbidden => ?_, fun permitted wrong => ?_⟩
    · rw [takeRequest_notPermitted _ _ _ (Bool.eq_false_iff.mpr forbidden)]
      rfl
    · rw [takeRequest_badLength _ _ permitted wrong]
      rfl

/-! ### IDENTIFY and READ_SETTING (R172, R173) -/

theorem exec_readSetting {s : State} {p : Port} (ready : Ready s p) (item : Byte) : exec (.readSetting p [item]) s =
    (let r := serveReadSetting item (taken s p)
     .next (answered r.state p 0x88 r.status.byte r.data)) := by
  rw [exec_readSetting_ready p [item] s ready.1 ready.2 (by cases p <;> rfl) rfl, serve_readSetting]
  rfl

theorem serveReadSetting_numeric (s : State) {item : Byte} {id : SettingId}
    (number : item.toNat = (settingRow id).number) :
    serveReadSetting item s = ⟨s, .ok, item :: fourOf (s.setting id)⟩ := by
  have named : SettingId.ofNumber item.toNat = some id := by
    rw [number, settingRow_number, settingId_ofNumber_number]
  rw [serveReadSetting, named, fourOf_eq]

theorem serveReadSetting_trigger (s : State) {item : Byte} {i : TriggerId} (number : item.toNat = 128 + i.val) :
    serveReadSetting item s = ⟨s, .ok, item :: s.triggerBytes i⟩ := by
  have entry : 128 ≤ item.toNat ∧ item.toNat < 136 := by omega
  have same : (⟨item.toNat - 128, by omega⟩ : TriggerId) = i := Fin.ext (by simp only []; omega)
  rw [serveReadSetting, settingId_ofNumber_above (by omega)]
  simp only [dif_pos entry, same]

theorem serveReadSetting_other (s : State) {item : Byte}
    (other : 28 < item.toNat ∧ item.toNat < 128 ∨ 135 < item.toNat) :
    serveReadSetting item s = ⟨s, .badValue, []⟩ := by
  have noEntry : ¬ (128 ≤ item.toNat ∧ item.toNat < 136) := by omega
  rw [serveReadSetting, settingId_ofNumber_above (by omega)]
  exact dif_neg noEntry

theorem triggerBytes_eq (s : State) (i : TriggerId) : s.triggerBytes i =
    (let cfg := s.settings.triggers.get i
     let run := s.engine.triggers.get i
     [flagCode cfg.enabled, phasesCode cfg.phases, quantityCode cfg.quantity, comparisonCode cfg.comparison]
       ++ fourOfInt cfg.threshold ++ [byteOf cfg.persistence, byteOf run.matchCount, flagCode run.latched]) := by
  simp only [State.triggerBytes, flagCode_eq, phasesCode_eq, quantityCode_eq, comparisonCode_eq, fourOfInt_eq]

/-- Settles O15: IDENTIFY names the part, and an item is a numeric setting, a trigger entry or neither. -/
theorem identifyAndSettingReads : Obligations.IdentifyAndSettingReads := by
  refine ⟨fun s p ready => ?_, fun s p item ready => ?_⟩
  · rw [exec_identify_ready p [] s ready.1 ready.2 (by cases p <;> rfl) rfl, serve_identify]
    cases p <;> rfl
  · rw [exec_readSetting ready]
    refine ⟨fun id number => ?_, fun i number => ?_, fun other => ?_⟩
    · rw [serveReadSetting_numeric _ number]
      rfl
    · rw [serveReadSetting_trigger _ number, triggerBytes_eq]
      rfl
    · rw [serveReadSetting_other _ other]
      rfl

/-! ### READ_LOG (R184) -/

theorem exec_readLog {s : State} {p : Port} (ready : Ready s p) (a b c d count : Byte) :
    exec (.readLog p [a, b, c, d, count]) s =
      (let r := serveReadLog (fromFour a b c d) count (taken s p)
       .next (answered r.state p 0x87 r.status.byte r.data)) := by
  rw [exec_readLog_ready p _ s ready.1 ready.2 (by cases p <;> rfl) rfl, serve_readLog, fromFour_eq]
  rfl

/-- The data of READ_LOG's response: the gap flag, the count, the first sequence number and the records (R181). -/
def logData (gap : Bool) (rs : List LogRecord) : List Byte :=
  [flagByte gap, byteOf rs.length] ++ wordBytes ((rs.head?.map (·.sequence)).getD 0) ++ rs.flatMap (·.bytes)

theorem logRecordBytes_eq (r : LogRecord) : r.bytes =
    fourBytes r.time ++ [byteOf r.conn.val, phaseCode r.fromPhase, phaseCode (some r.toPhase), sourceCode r.source,
      triggerCode r.trigger] ++ twoOf (r.gain.getD 0) ++ [outcomeCode r.outcome] := by
  simp only [LogRecord.bytes, gainBytes, fourBytes_eq, phaseCode_eq, sourceCode_eq, triggerCode_eq, twoOf_eq,
    outcomeCode_eq]

theorem serveReadLog_served (start : Word) {count : Byte} (s : State) (low : 1 ≤ count.toNat)
    (high : count.toNat ≤ 8) :
    serveReadLog start count s =
      (let r := s.log.read start count.toNat
       ⟨s, .ok, logData r.2 r.1⟩) := by
  rw [serveReadLog, if_neg (by omega)]
  dsimp only
  rw [logData]
  rcases (s.log.read start count.toNat).1 with _ | _ <;> rfl

/-- Settles O14: the four cases of R184 in their order. -/
theorem logReadFollowsThePosition : Obligations.LogReadFollowsThePosition := by
  intro s p a b c d count ready _ start oldest answer
  have shown : ∀ gap rs, answer gap rs = answered (taken s p) p 0x87 0x00 (logData gap rs) := fun gap rs => by
    simp only [answer, logData, logRecordBytes_eq, flagCode_eq, fourBytes_eq]
  rw [exec_readLog ready]
  refine ⟨fun outside => ?_, fun low high => ?_⟩
  · rw [serveReadLog, if_pos (by omega)]
    rfl
  · rw [serveReadLog_served _ _ low high, MoveLog.read]
    have log : (taken s p).log = s.log := rfl
    simp only [log, shown]
    split
    · rfl
    · split
      · rfl
      · split <;> rfl

/-! ### One byte on a master port (R167) -/

/-- The state with the frame under assembly on a port replaced: none while the port waits for a start byte. -/
def receiving (s : State) (p : Port) (rx : Option (List Byte)) : State :=
  { s with ports := s.ports.set p { s.ports.get p with rx := rx } }

theorem taken_eq_receiving (s : State) (p : Port) : taken s p = receiving s p none := rfl

@[simp] theorem receiving_rx (s : State) (p : Port) (rx : Option (List Byte)) :
    ((receiving s p rx).ports.get p).rx = rx := by simp [receiving]

@[simp] theorem receiving_receiving (s : State) (p : Port) (rx rx' : Option (List Byte)) :
    receiving (receiving s p rx) p rx' = receiving s p rx' := by simp [receiving]

theorem receiving_of_rx {s : State} {p : Port} {rx : Option (List Byte)} (h : (s.ports.get p).rx = rx) :
    receiving s p rx = s := by
  subst h
  exact congrArg s.withPorts (PerPort.set_get s.ports p)

/-- A byte that completes no frame leaves the part it has come to. -/
theorem portByte_of_none {s : State} {p : Port} {b : Byte} {rx : Option (List Byte)}
    (h : rxByte (s.ports.get p).rx b = (rx, .none)) : s.portByte p b = receiving s p rx := by
  rw [State.portByte, State.port, h]
  rfl

/-- A byte that completes a rejected frame leaves the port waiting, and the frame is counted. -/
theorem portByte_of_rejected {s : State} {p : Port} {b : Byte}
    (h : rxByte (s.ports.get p).rx b = (none, .rejected)) : s.portByte p b = rejecting (taken s p) p := by
  rw [State.portByte, State.port, h]
  rfl

/-- A byte that completes a good frame leaves the port waiting, and the frame is handed on. -/
theorem portByte_of_good {s : State} {p : Port} {b : Byte} {payload : List Byte}
    (h : rxByte (s.ports.get p).rx b = (none, .good payload)) : s.portByte p b = (taken s p).goodFrame p payload := by
  rw [State.portByte, State.port, h]
  rfl

theorem portByte_start {s : State} {p : Port} (waiting : (s.ports.get p).rx = none) :
    s.portByte p 0x5A = receiving s p (some []) :=
  portByte_of_none (by rw [waiting, rxByte, if_pos rfl])

theorem portByte_ignored {s : State} {p : Port} (waiting : (s.ports.get p).rx = none) {b : Byte} (other : b ≠ 0x5A) :
    s.portByte p b = s :=
  (portByte_of_none (by rw [waiting, rxByte, if_neg other])).trans (receiving_of_rx waiting)

theorem portByte_badLength {s : State} {p : Port} (started : (s.ports.get p).rx = some []) {len : Byte}
    (bad : len.toNat = 0 ∨ 120 < len.toNat) : s.portByte p len = rejecting (taken s p) p :=
  portByte_of_rejected (by simp only [started, rxByte, if_pos bad])

theorem partOfFrame_cons_append (len : Byte) (rest more : List Byte) : PartOfFrame (len :: rest ++ more) ↔
    1 ≤ len.toNat ∧ len.toNat ≤ 120 ∧ rest.length + more.length < len.toNat + 2 := by
  rw [List.cons_append, PartOfFrame, List.length_append]

/-- A byte behind which the frame is still incomplete joins it. -/
theorem portByte_joins {s : State} {p : Port} {got : List Byte} (h : (s.ports.get p).rx = some got) {b : Byte}
    (part : PartOfFrame (got ++ [b])) : s.portByte p b = receiving s p (some (got ++ [b])) := by
  refine portByte_of_none ?_
  rcases got with _ | ⟨len, rest⟩
  · obtain ⟨low, high, -⟩ := part
    have good : ¬ (b.toNat = 0 ∨ 120 < b.toNat) := by omega
    simp only [h, rxByte, if_neg good, List.nil_append]
  · obtain ⟨-, -, room⟩ := (partOfFrame_cons_append len rest [b]).mp part
    have more : (len :: rest).length + 1 < len.toNat + 3 := Nat.succ_lt_succ room
    simp only [h, rxByte, if_pos more]

/-- The last byte of a frame: the frame is good when its CRC matches, and rejected otherwise. -/
theorem portByte_last {s : State} {p : Port} {len high : Byte} {payload : List Byte}
    (h : (s.ports.get p).rx = some (len :: (payload ++ [high]))) (full : payload.length = len.toNat) (low : Byte) :
    s.portByte p low = if crc16 (len :: payload) = readHalf high low then (taken s p).goodFrame p payload
      else rejecting (taken s p) p := by
  have last : ¬ (len :: (payload ++ [high])).length + 1 < len.toNat + 3 := by
    simp only [List.length_append, List.length_cons, List.length_nil]
    omega
  have before : (len :: (payload ++ [high])).getLast? = some high := by
    rw [← List.cons_append, List.getLast?_concat]
  have completed : rxByte (s.ports.get p).rx low =
      if crc16 (len :: payload) = readHalf high low then (none, .good payload) else (none, .rejected) := by
    simp only [h, rxByte, if_neg last, List.take_left' full, before, Option.getD_some]
  split
  · next good => exact portByte_of_good (completed.trans (if_pos good))
  · next bad => exact portByte_of_rejected (completed.trans (if_neg bad))

/-! ### The bytes of a row (R167, R177) -/

theorem portBytes_cons (s : State) (p : Port) (b : Byte) (bs : List Byte) :
    s.portBytes p (b :: bs) = (s.portByte p b).portBytes p bs := rfl

theorem portBytes_append (s : State) (p : Port) (bs cs : List Byte) :
    s.portBytes p (bs ++ cs) = (s.portBytes p bs).portBytes p cs := List.foldl_append

theorem PartOfFrame.of_append {got more : List Byte} (part : PartOfFrame (got ++ more)) : PartOfFrame got := by
  rcases got with _ | ⟨len, rest⟩
  · trivial
  · obtain ⟨low, high, room⟩ := (partOfFrame_cons_append len rest more).mp part
    exact ⟨low, high, by omega⟩

/-- Bytes behind which the frame is still incomplete join it. -/
theorem portBytes_join {s : State} {p : Port} {got : List Byte} (h : (s.ports.get p).rx = some got) {bs : List Byte}
    (part : PartOfFrame (got ++ bs)) : s.portBytes p bs = receiving s p (some (got ++ bs)) := by
  induction bs generalizing s got with
  | nil => rw [List.append_nil, receiving_of_rx h]; rfl
  | cons b bs ih =>
    rw [List.append_cons] at part ⊢
    rw [portBytes_cons, portByte_joins h part.of_append, ih (receiving_rx _ _ _) part, receiving_receiving]

/-- A start byte on a port that waits, and bytes behind it that leave the frame incomplete. -/
theorem portBytes_begun {s : State} {p : Port} (waiting : (s.ports.get p).rx = none) {part : List Byte}
    (incomplete : PartOfFrame part) : s.portBytes p (0x5A :: part) = receiving s p (some part) := by
  rw [portBytes_cons, portByte_start waiting, portBytes_join (receiving_rx _ _ _) (List.nil_append part ▸ incomplete),
    receiving_receiving, List.nil_append]

theorem byteOf_toNat {n : Nat} (small : n ≤ 120) : (byteOf n).toNat = n := by
  rw [byteOf, BitVec.toNat_ofNat]
  omega

/-- The bytes of a whole frame of a permitted length, on a port that waits. -/
theorem portBytes_frame {s : State} {p : Port} (waiting : (s.ports.get p).rx = none) {payload : List Byte}
    (short : 1 ≤ payload.length) (long : payload.length ≤ 120) (high low : Byte) :
    s.portBytes p (0x5A :: byteOf payload.length :: (payload ++ [high, low])) =
      if crc16 (byteOf payload.length :: payload) = readHalf high low then (taken s p).goodFrame p payload
      else rejecting s p := by
  have length := byteOf_toNat long
  have parts : 0x5A :: byteOf payload.length :: (payload ++ [high, low]) =
      (0x5A :: byteOf payload.length :: (payload ++ [high])) ++ [low] := by simp
  have part : PartOfFrame (byteOf payload.length :: (payload ++ [high])) := by
    refine ⟨by omega, by omega, ?_⟩
    rw [length, List.length_append]
    exact Nat.lt_succ_self _
  rw [parts, portBytes_append, portBytes_begun waiting part]
  show State.portByte p _ low = _
  rw [portByte_last (receiving_rx _ _ _) length.symm, taken_eq_receiving, receiving_receiving, receiving_of_rx waiting,
    taken_eq_receiving, receiving_of_rx waiting]

/-- What a row's bytes do behind part of a frame they do behind the same part on a port that waits. -/
theorem portBytes_resumed {s : State} {p : Port} {got : List Byte} (h : (s.ports.get p).rx = some got)
    (part : PartOfFrame got) (more : List Byte) :
    s.portBytes p more = (taken s p).portBytes p (0x5A :: (got ++ more)) := by
  have parts : 0x5A :: (got ++ more) = (0x5A :: got) ++ more := rfl
  rw [parts, portBytes_append, taken_eq_receiving, portBytes_begun (receiving_rx _ _ _) part, receiving_receiving,
    receiving_of_rx h]

/-! ### The two rows -/

theorem exec_rejectedFrame {s : State} (on : s.powered = true) (p : Port) (bs : List Byte) :
    exec (.rejectedFrame p bs) s = .next (s.portBytes p bs) := whilePowered_on on _

theorem exec_frameGapTimeout {s : State} (on : s.powered = true) (p : Port) (bs : List Byte) :
    exec (.frameGapTimeout p bs) s = .next ((s.portBytes p bs).portGap p) := whilePowered_on on _

theorem portGap_waiting {s : State} {p : Port} (waiting : (s.ports.get p).rx = none) : s.portGap p = s := by
  simp [State.portGap, State.port, waiting]

/-- A gap drops the frame under assembly and counts it. -/
theorem portGap_receiving {s : State} {p : Port} {got : List Byte} (h : (s.ports.get p).rx = some got) :
    s.portGap p = rejecting (taken s p) p := by
  simp only [State.portGap, State.port, h, Option.isSome_some, if_true]
  rfl

/-- Settles O5: a wrong length, a wrong CRC and a gap leave the port waiting and are counted, and bytes behind part of a
frame go on with it. -/
theorem badFramesAreCounted : Obligations.BadFramesAreCounted := by
  refine ⟨fun s p on waiting => ⟨fun len bad => ?_, fun payload high low short long wrong => ?_,
    fun part incomplete => ⟨?_, ?_⟩, ?_, fun b rest other => ⟨?_, ?_⟩⟩,
    fun s p got on h => ⟨?_, fun part more => ⟨?_, ?_⟩⟩⟩
  · rw [exec_rejectedFrame on, portBytes_cons, portByte_start waiting]
    show Host.Outcome.next (State.portByte p _ len) = _
    rw [portByte_badLength (receiving_rx _ _ _) bad, taken_eq_receiving, receiving_receiving, receiving_of_rx waiting]
  · rw [crcOf_eq, fromTwo_eq] at wrong
    rw [exec_rejectedFrame on, portBytes_frame waiting short long, if_neg wrong]
  · rw [exec_frameGapTimeout on, portBytes_begun waiting incomplete, portGap_receiving (receiving_rx _ _ _),
      taken_eq_receiving, receiving_receiving, receiving_of_rx waiting]
  · rw [exec_rejectedFrame on, portBytes_begun waiting incomplete]
    rfl
  · rw [exec_frameGapTimeout on, show s.portBytes p [] = s from rfl, portGap_waiting waiting]
  · rw [exec_rejectedFrame on, exec_rejectedFrame on, portBytes_cons, portByte_ignored waiting other]
  · rw [exec_frameGapTimeout on, exec_frameGapTimeout on, portBytes_cons, portByte_ignored waiting other]
  · rw [exec_frameGapTimeout on, show s.portBytes p [] = s from rfl, portGap_receiving h]
  · rw [exec_rejectedFrame on, portBytes_resumed h part]
    exact (exec_rejectedFrame (s := taken s p) on p _).symm
  · rw [exec_frameGapTimeout on, portBytes_resumed h part]
    exact (exec_frameGapTimeout (s := taken s p) on p _).symm

/-- Settles O6: the bytes of a frame end in the CRC of its length and payload, so they complete a good frame. -/
theorem frameBytesGiveThePayload : Obligations.FrameBytesGiveThePayload := by
  intro s p payload on waiting short long
  have bytes : frameOf payload = 0x5A :: byteOf payload.length :: (payload ++
      twoBytes (crcOf (byteOf payload.length :: payload))) := rfl
  rw [bytes, twoBytes_eq, crcOf_eq, halfBytes, exec_rejectedFrame on, portBytes_frame waiting short long,
    if_pos (readHalf_halves _).symm, exec_frameBuffered on]

end Sys2Proof.Claims

/-!
PROOFS. A response that leaves its port (R168, R174): the buffered request is taken whatever is under assembly on the
port, since no command's meaning reads or changes the assembly, but for a RESTART that takes effect (R191, R192).
-/

namespace Sys2Proof.Claims

open Sys2Proof.Machine

/-! ### The orders apart from the ports (R80, R96, R105) -/

section
variable (s : State) (ports : PerPort PortState)

theorem conn_withPorts (c : ConnId) : (s.withPorts ports).conn c = s.conn c := State.conn_congr rfl c

theorem config_withPorts (c : ConnId) : (s.withPorts ports).config c = s.config c := State.config_congr rfl c

theorem queuedOrder_withPorts (c : ConnId) : (s.withPorts ports).queuedOrder c = s.queuedOrder c := rfl

theorem setPin_withPorts (c : ConnId) (p : Port) (b : Bool) :
    (s.withPorts ports).setPin c p b = (s.setPin c p b).withPorts ports := rfl

theorem withHold_withPorts (v : HoldSet) : (s.withPorts ports).withHold v = (s.withHold v).withPorts ports := rfl

theorem withEngine_withPorts (e : Engine) :
    (s.withPorts ports).withEngine e = (s.withEngine e).withPorts ports := rfl

theorem orderEnded_withPorts (src : Source) :
    (s.withPorts ports).orderEnded src = (s.orderEnded src).withPorts ports := by
  rw [orderEnded_eq_engineTold, orderEnded_eq_engineTold, engineTold_withPorts]

theorem removeQueued_withPorts (c : ConnId) (e : LogOutcome) :
    (s.withPorts ports).removeQueued c e = (s.removeQueued c e).withPorts ports := by
  rcases queued : s.queuedOrder c with _ | o
  · rw [removeQueued_of_none queued, removeQueued_of_none (s := s.withPorts ports) queued]
  · rw [removeQueued_eq_removed queued, removeQueued_eq_removed (s := s.withPorts ports) queued, removed_withPorts]

theorem removeBalancer_withPorts (c : ConnId) (e : LogOutcome) :
    (s.withPorts ports).removeBalancer c e = (s.removeBalancer c e).withPorts ports := by
  unfold State.removeBalancer
  rw [queuedOrder_withPorts]
  split
  · rfl
  · split
    · exact removeQueued_withPorts s ports c e
    · rfl

theorem meetReturn_withPorts (c : ConnId) : (s.withPorts ports).meetReturn c = (s.meetReturn c).withPorts ports := by
  unfold State.meetReturn
  rw [conn_withPorts]
  split
  · exact removeBalancer_withPorts s ports c _
  · split
    · rfl
    · exact removeBalancer_withPorts s ports c _

/-! ### The contexts apart from the ports (R147, R149) -/

theorem endTransfer_withPorts (k : CtxId) (x : Context) (e : Ending) (disarm : Bool) :
    (s.withPorts ports).endTransfer k x e disarm = (s.endTransfer k x e disarm).withPorts ports := by
  rw [endTransfer_eq_ended, endTransfer_eq_ended]
  exact ended_withPorts s ports k x _ _ _

theorem returnOrder_withPorts (k : CtxId) (x : Context) :
    (s.withPorts ports).returnOrder k x = (s.returnOrder k x).withPorts ports := by
  unfold State.returnOrder
  dsimp only
  rw [← meetReturn_withPorts]
  rfl

theorem disarmContext_withPorts (k : CtxId) (x : Context) :
    (s.withPorts ports).disarmContext k x = (s.disarmContext k x).withPorts ports := by
  unfold State.disarmContext
  split
  · exact endTransfer_withPorts s ports k x _ _
  · rw [returnOrder_withPorts]
    rfl

theorem reachContext_withPorts (k : CtxId) :
    (s.withPorts ports).reachContext k = (s.reachContext k).withPorts ports := by
  have reachable : (s.withPorts ports).reachable = s.reachable := rfl
  unfold State.reachContext
  rw [State.context_congr (State.withPorts_transfers s ports), reachable]
  split
  · rfl
  · split
    · exact disarmContext_withPorts s ports k _
    · rfl

theorem reachContexts_withPorts : (s.withPorts ports).reachContexts = s.reachContexts.withPorts ports := by
  have withdraws : ∀ k, (s.withPorts ports).wouldWithdraw k = s.wouldWithdraw k := fun _ => rfl
  unfold State.reachContexts
  simp only [withdraws, State.withPorts_log, reachContext_withPorts]
  split
  · split <;> rfl
  · rfl

/-! ### The engine apart from the ports (R72, R156, R157) -/

theorem reviewStopping_withPorts : (s.withPorts ports).reviewStopping = s.reviewStopping.withPorts ports := by
  rw [reviewStopping_eq, reviewStopping_eq]
  rfl

theorem raise_withPorts (a : Alarm) : (s.withPorts ports).raise a = (s.raise a).withPorts ports := rfl

theorem holdBegins_withPorts : (s.withPorts ports).holdBegins = s.holdBegins.withPorts ports := by
  unfold State.holdBegins
  rw [reviewStopping_withPorts, reachContexts_withPorts, raise_withPorts, finish_withPorts]

theorem holdEnds_withPorts : (s.withPorts ports).holdEnds = s.holdEnds.withPorts ports := by
  unfold State.holdEnds
  rw [raise_withPorts, reviewStopping_withPorts, finish_withPorts]

theorem settingWritten_withPorts (id : SettingId) :
    (s.withPorts ports).settingWritten id = (s.settingWritten id).withPorts ports := by
  unfold State.settingWritten
  split
  · exact reviewStopping_withPorts s ports
  · split
    · exact finish_withPorts s ports
    · rfl

end

/-! ### The meanings apart from the ports (R169)

Every command's meaning but that of READ_STATUS, which shows the counters, reads no port; none changes one. -/

/-- A command's meaning that neither reads nor changes a port. -/
def PortBlind (f : State → Answer) : Prop :=
  ∀ s ports, f (s.withPorts ports) = ⟨(f s).state.withPorts ports, (f s).status, (f s).data⟩

section
variable (p : Port) (n : Byte)

theorem serveReadConnection_portBlind : PortBlind (serveReadConnection n) := fun s ports => by
  unfold serveReadConnection
  split <;> rfl

theorem serveReadTable_portBlind : PortBlind (serveReadTable n) := fun s ports => by
  unfold serveReadTable
  split <;> rfl

theorem serveReadQueue_portBlind : PortBlind (serveReadQueue n) := fun s ports => by
  unfold serveReadQueue
  split <;> rfl

theorem serveReadLog_portBlind (start : Word) : PortBlind (serveReadLog start n) := fun s ports => by
  unfold serveReadLog
  split <;> rfl

theorem serveReadSetting_portBlind : PortBlind (serveReadSetting n) := fun s ports => by
  unfold serveReadSetting
  split
  · rfl
  · split <;> rfl

theorem admitMove_portBlind (c : ConnId) (target : Phase) (priority lifetime : Nat) (how evicted : Byte) :
    PortBlind fun s => s.admitMove p c target priority lifetime how evicted := fun s ports => by
  have life : (s.withPorts ports).grantedLife lifetime = s.grantedLife lifetime := rfl
  have joined : ∀ life, (s.withPorts ports).enqueue c target (sourceOf p) priority life none none =
      (s.enqueue c target (sourceOf p) priority life none none).withPorts ports := fun _ => rfl
  simp only [State.admitMove, life, joined, finish_withPorts]

theorem placeMove_portBlind (c : ConnId) (target : Phase) (priority lifetime : Nat) :
    PortBlind fun s => s.placeMove p c target priority lifetime := fun s ports => by
  have admitted := admitMove_portBlind p c target priority lifetime
  have occupancy : (s.withPorts ports).occupancy = s.occupancy := rfl
  have evictee : (s.withPorts ports).evictee = s.evictee := rfl
  unfold State.placeMove
  simp only [queuedOrder_withPorts, occupancy, evictee]
  split
  · next o _ =>
    split
    · rw [replaceOrder_eq_replaced, replaceOrder_eq_replaced, replaced_withPorts]
      exact admitted _ _ _ ports
    · rfl
  · split
    · exact admitted _ _ s ports
    · split
      · rw [removeQueued_withPorts]
        exact admitted _ _ _ ports
      · rfl

theorem serveMove_portBlind (target priority : Byte) (lifetime : Half) :
    PortBlind (serveMove p n target priority lifetime) := fun s ports => by
  have refusal : ∀ c t k, (s.withPorts ports).moveRefusal p c t k = s.moveRefusal p c t k := fun _ _ _ => rfl
  unfold serveMove
  simp only [config_withPorts, refusal]
  split
  · rfl
  · split
    · rfl
    · split
      · rfl
      · split
        · rfl
        · exact placeMove_portBlind p _ _ _ _ s ports

theorem serveCancel_portBlind : PortBlind (serveCancel n) := fun s ports => by
  unfold serveCancel
  simp only [queuedOrder_withPorts, conn_withPorts, removeQueued_withPorts, finish_withPorts]
  split
  · rfl
  · split
    · rfl
    · split <;> rfl

theorem serveReprioritize_portBlind (priority : Byte) : PortBlind (serveReprioritize n priority) := fun s ports => by
  have changed : ∀ c k, (s.withPorts ports).setPriority c k = (s.setPriority c k).withPorts ports := fun _ _ => rfl
  unfold serveReprioritize
  simp only [queuedOrder_withPorts, conn_withPorts, changed, finish_withPorts]
  split
  · rfl
  · split
    · rfl
    · split
      · rfl
      · split <;> rfl

theorem servePin_portBlind : PortBlind (servePin p n) := fun s ports => by
  have used : ∀ c, (s.withPorts ports).used c = s.used c := fun _ => rfl
  unfold servePin
  simp only [used, conn_withPorts, setPin_withPorts, removeBalancer_withPorts, finish_withPorts]
  split
  · rfl
  · split
    · rfl
    · split <;> rfl

theorem serveUnpin_portBlind : PortBlind (serveUnpin p n) := fun s ports => by
  unfold serveUnpin
  simp only [conn_withPorts, setPin_withPorts, finish_withPorts]
  split
  · rfl
  · split <;> rfl

theorem serveUnpinAll_portBlind : PortBlind (serveUnpinAll p) := fun s ports => by
  have members : (s.withPorts ports).pinnedBy p = s.pinnedBy p := rfl
  have left : ∀ f, (s.withPorts ports).mapConns f = (s.mapConns f).withPorts ports := fun _ => rfl
  unfold serveUnpinAll
  simp only [members, left, finish_withPorts]
  split <;> rfl

theorem serveHold_portBlind : PortBlind (serveHold p) := fun s ports => by
  unfold serveHold
  simp only [withHold_withPorts, State.withPorts_hold, holdBegins_withPorts]
  split <;> rfl

theorem serveRelease_portBlind : PortBlind (serveRelease p) := fun s ports => by
  unfold serveRelease
  simp only [withHold_withPorts, State.withPorts_hold, holdEnds_withPorts]
  split <;> rfl

theorem servePause_portBlind : PortBlind servePause := fun s ports => by
  unfold servePause
  simp only [withEngine_withPorts, State.withPorts_engine, reviewStopping_withPorts]
  split <;> rfl

theorem serveResume_portBlind : PortBlind serveResume := fun s ports => by
  unfold serveResume
  simp only [withEngine_withPorts, State.withPorts_engine, reviewStopping_withPorts]
  split <;> rfl

theorem serveClearFault_portBlind : PortBlind (serveClearFault n) := fun s ports => by
  unfold serveClearFault
  simp only [conn_withPorts]
  split
  · rfl
  · split
    · rfl
    · split <;> rfl

theorem serveSurvey_portBlind : PortBlind serveSurvey := fun s ports => by
  have started : (s.withPorts ports).startRound.restartSurveyTimer =
      s.startRound.restartSurveyTimer.withPorts ports := rfl
  unfold serveSurvey
  rw [started, arbitrate_withPorts, State.withPorts_bus]
  split <;> rfl

theorem serveWriteSetting_portBlind (value : Word) : PortBlind (serveWriteSetting n value) := fun s ports => by
  have stored : ∀ st, (s.withPorts ports).withSettings st = (s.withSettings st).withPorts ports := fun _ => rfl
  unfold serveWriteSetting
  simp only [stored, State.withPorts_saving, State.withPorts_settings, settingWritten_withPorts]
  split
  · rfl
  · split
    · rfl
    · split <;> rfl

theorem writeConfig_withPorts (s : State) (ports : PerPort PortState) (c : ConnId) (cfg : ConnConfig) :
    (s.withPorts ports).writeConfig c cfg = (s.writeConfig c cfg).withPorts ports := by
  unfold State.writeConfig
  simp only [config_withPorts, conn_withPorts]
  split <;> rfl

theorem serveWriteConnection_portBlind (kind allowed : Byte) (serial : Word) :
    PortBlind (serveWriteConnection n kind allowed serial) := fun s ports => by
  unfold serveWriteConnection
  simp only [conn_withPorts, State.withPorts_saving, writeConfig_withPorts]
  split
  · rfl
  · split
    · rfl
    · split
      · rfl
      · split <;> rfl

theorem serveWriteTrigger_portBlind (enabled phases quantity comparison : Byte) (threshold : Word)
    (persistence : Byte) : PortBlind (serveWriteTrigger n enabled phases quantity comparison threshold persistence) :=
  fun s ports => by
  unfold serveWriteTrigger
  rw [State.withPorts_saving]
  split
  · split
    · rfl
    · split <;> rfl
  · rfl

theorem serveSaveSettings_portBlind : PortBlind serveSaveSettings := fun s ports => by
  unfold serveSaveSettings
  rw [State.withPorts_saving]
  split <;> rfl

theorem serveRestart_portBlind : PortBlind serveRestart := fun s ports => by
  have deferral : (s.withPorts ports).withRestartDeferred true = (s.withRestartDeferred true).withPorts ports := rfl
  unfold serveRestart
  rw [deferral, reachContexts_withPorts, State.withPorts_restartDeferred]
  split <;> rfl

theorem serveSetTime_portBlind (t : Word) : PortBlind (serveSetTime t) := fun s ports => by
  have set : (s.withPorts ports).setPartTime t = (s.setPartTime t).withPorts ports := by
    rw [setPartTime_eq, setPartTime_eq]
    rfl
  unfold serveSetTime
  simp only [set, State.withPorts_partTime, finish_withPorts]
  split <;> rfl

end

/-- Every request of the right length but READ_STATUS means the same whatever the ports do. -/
theorem serve_portBlind {c : Command} (p : Port) {params : List Byte} (fits : params.length = c.paramBytes)
    (other : c ≠ .readStatus) : PortBlind (serve c p params) := by
  cases c with
  | identify => match params, fits with | [], _ => exact fun _ _ => rfl
  | readStatus => exact absurd rfl other
  | readPhases => match params, fits with | [], _ => exact fun _ _ => rfl
  | readConnection => match params, fits with | [n], _ => exact serveReadConnection_portBlind n
  | readTable => match params, fits with | [n], _ => exact serveReadTable_portBlind n
  | readQueue => match params, fits with | [n], _ => exact serveReadQueue_portBlind n
  | readLog => match params, fits with | [_, _, _, _, n], _ => exact serveReadLog_portBlind n _
  | readSetting => match params, fits with | [n], _ => exact serveReadSetting_portBlind n
  | move => match params, fits with | [n, _, _, _, _], _ => exact serveMove_portBlind p n _ _ _
  | cancel => match params, fits with | [n], _ => exact serveCancel_portBlind n
  | reprioritize => match params, fits with | [n, _], _ => exact serveReprioritize_portBlind n _
  | pin => match params, fits with | [n], _ => exact servePin_portBlind p n
  | unpin => match params, fits with | [n], _ => exact serveUnpin_portBlind p n
  | unpinAll => match params, fits with | [], _ => exact serveUnpinAll_portBlind p
  | hold => match params, fits with | [], _ => exact serveHold_portBlind p
  | release => match params, fits with | [], _ => exact serveRelease_portBlind p
  | pauseBalancer => match params, fits with | [], _ => exact servePause_portBlind
  | resumeBalancer => match params, fits with | [], _ => exact serveResume_portBlind
  | clearFault => match params, fits with | [n], _ => exact serveClearFault_portBlind n
  | survey => match params, fits with | [], _ => exact serveSurvey_portBlind
  | clearAlarms => match params, fits with | [_], _ => exact fun _ _ => rfl
  | setAlarmMask => match params, fits with | [_], _ => exact fun _ _ => rfl
  | writeSetting => match params, fits with | [n, _, _, _, _], _ => exact serveWriteSetting_portBlind n _
  | writeConnection =>
    match params, fits with | [n, _, _, _, _, _, _], _ => exact serveWriteConnection_portBlind n _ _ _
  | writeTrigger =>
    match params, fits with | [n, _, _, _, _, _, _, _, _, _], _ => exact serveWriteTrigger_portBlind n _ _ _ _ _ _
  | saveSettings => match params, fits with | [], _ => exact serveSaveSettings_portBlind
  | restart => match params, fits with | [], _ => exact serveRestart_portBlind
  | setTime => match params, fits with | [_, _, _, _], _ => exact serveSetTime_portBlind _

/-! ### A request while a frame is under assembly (R169) -/

/-- What has left the ports as they were leaves the part of a frame on one of them. -/
theorem receiving_of_ports {s t : State} (same : t.ports = s.ports) (p : Port) (rx : Option (List Byte)) :
    receiving t p rx = t.withPorts (receiving s p rx).ports := by
  unfold receiving
  rw [same]
  rfl

theorem PortBlind.ports {f : State → Answer} (blind : PortBlind f) (s : State) : (f s).state.ports = s.ports :=
  congrArg (fun a : Answer => a.state.ports) (blind s s.ports)

/-- A meaning that reads no port is the same whatever is under assembly on one. -/
theorem PortBlind.receiving {f : State → Answer} (blind : PortBlind f) (s : State) (p : Port)
    (rx : Option (List Byte)) :
    f (receiving s p rx) = ⟨Claims.receiving (f s).state p rx, (f s).status, (f s).data⟩ := by
  rw [receiving_of_ports (blind.ports s)]
  exact blind s _

/-- READ_STATUS shows the counters of the ports and no assembly. -/
theorem serveReadStatus_receiving (s : State) (p q : Port) (rx : Option (List Byte)) :
    serveReadStatus q (receiving s p rx) = ⟨receiving s p rx, .ok, (serveReadStatus q s).data⟩ := by
  have counters : (receiving s p rx).counterBytes = s.counterBytes := by cases p <;> rfl
  rw [serveReadStatus, counters]
  rfl

theorem serve_receiving {c : Command} {params : List Byte} (fits : params.length = c.paramBytes) (s : State)
    (p : Port) (rx : Option (List Byte)) : serve c p params (receiving s p rx) =
      ⟨receiving (serve c p params s).state p rx, (serve c p params s).status, (serve c p params s).data⟩ := by
  by_cases status : c = .readStatus
  · subst status
    obtain rfl := List.length_eq_zero_iff.mp fits
    exact serveReadStatus_receiving s p p rx
  · exact (serve_portBlind p fits status).receiving s p rx

theorem respond_receiving (s : State) (p : Port) (rx : Option (List Byte)) (code : Byte) (st : Status)
    (data : List Byte) : (receiving s p rx).respond p code st data = receiving (s.respond p code st data) p rx := by
  cases p <;> rfl

/-! ### A restart while a frame is under assembly (R191, R192) -/

theorem cancelAll_withPorts (s : State) (ports : PerPort PortState) :
    (s.withPorts ports).cancelAll = s.cancelAll.withPorts ports := by
  unfold State.cancelAll
  rw [State.withPorts_queue]
  generalize s.queue.orders = l
  induction l generalizing s with
  | nil => rfl
  | cons o l ih => exact ih ((s.dropOrder o .cancelled).setMotion o.conn .idle)

theorem loadImage_withPorts (s : State) (ports : PerPort PortState) :
    (s.withPorts ports).loadImage = s.loadImage.withPorts ports := by
  unfold State.loadImage State.raiseIf
  rw [State.withPorts_image]
  split <;> rfl

/-- A restart clears what is under assembly on every port (R192). -/
theorem restartBlocks_receiving (s : State) (p : Port) (rx : Option (List Byte)) :
    (receiving s p rx).restartBlocks = s.restartBlocks := by
  cases p <;> rfl

theorem restartEffect_receiving (s : State) (p : Port) (rx : Option (List Byte)) :
    (receiving s p rx).restartEffect = s.restartEffect := by
  have before : (receiving s p rx).cancelAll.loadImage = receiving s.cancelAll.loadImage p rx := by
    have same : s.cancelAll.loadImage.ports = s.ports := by simp
    rw [receiving_of_ports same, ← loadImage_withPorts, ← cancelAll_withPorts]
    rfl
  rw [State.restartEffect, before, restartBlocks_receiving]
  rfl

theorem finish_receiving (s : State) (p : Port) (rx : Option (List Byte)) :
    (receiving s p rx).finish = receiving s.finish p rx := by
  have same : s.finish.ports = s.ports := by simp
  rw [receiving_of_ports same]
  exact finish_withPorts s _

/-- The end of an event leaves what is under assembly, while no restart is deferred or one is held. -/
theorem finishTransfer_receiving {s : State} (stays : s.restartDeferred = false ∨ RestartHeld s) (p : Port)
    (rx : Option (List Byte)) : (receiving s p rx).finishTransfer = receiving s.finishTransfer p rx := by
  rw [finishTransfer_eq_finish s stays, finishTransfer_eq_finish (receiving s p rx) stays, finish_receiving]

theorem finishTransfer_receiving_restarts {s : State} (deferral : s.restartDeferred = true) (free : ¬ RestartHeld s)
    (p : Port) (rx : Option (List Byte)) : (receiving s p rx).finishTransfer = s.finishTransfer := by
  rw [finishTransfer_restarts s deferral free, finishTransfer_restarts (receiving s p rx) deferral free,
    restartEffect_receiving]

/-- The payload is a RESTART that its port may request, and that nothing defers (R191). -/
def RestartsNow (s : State) (p : Port) (payload : List Byte) : Prop :=
  payload = [0x3C] ∧ p ≠ .pp ∧ s.restartDeferred = false ∧ ¬ RestartHeld s

theorem takeRequest_restart {s : State} {p : Port} (master : p ≠ .pp) (first : s.restartDeferred = false) :
    s.takeRequest p 0x3C [] = (answered (deferred s) p 0xBC 0x02 []).finishTransfer := by
  have permitted : Command.restart.permitted p = true := bne_iff_ne.mpr master
  refine (State.takeRequest_served s .restart p [] permitted rfl).trans ?_
  rw [serve_restart, serveRestart, first]
  rfl

/-- A RESTART that takes effect does so whatever is under assembly, and clears it. -/
theorem takeRequest_receiving_restarts {s : State} {p : Port} {code : Byte} {params : List Byte}
    (restarts : RestartsNow s p (code :: params)) (rx : Option (List Byte)) :
    (receiving s p rx).takeRequest p code params = s.takeRequest p code params
      ∧ ((s.takeRequest p code params).ports.get p).rx = none := by
  obtain ⟨payload, master, first, free⟩ := restarts
  obtain ⟨rfl, rfl⟩ := List.cons.inj payload
  obtain ⟨set, -, -, -, -, ports⟩ := deferred_blocks s
  have deferral : (answered (deferred s) p 0xBC 0x02 []).restartDeferred = true := set
  have unheld : ¬ RestartHeld (answered (deferred s) p 0xBC 0x02 []) := mt (restartHeld_deferred s).mp free
  have begun : answered (deferred (receiving s p rx)) p 0xBC 0x02 [] =
      receiving (answered (deferred s) p 0xBC 0x02 []) p rx := by
    have same : deferred (receiving s p rx) = receiving (deferred s) p rx := by
      rw [receiving_of_ports ports]
      exact reachContexts_withPorts (s.withRestartDeferred true) (receiving s p rx).ports
    rw [same]
    exact respond_receiving (deferred s) p rx 0x3C .accepted []
  obtain ⟨cleared, -⟩ := (restartEffect_restarted (answered (deferred s) p 0xBC 0x02 [])).2 p
  rw [takeRequest_restart master first, takeRequest_restart (s := receiving s p rx) master first, begun]
  refine ⟨finishTransfer_receiving_restarts deferral unheld p rx, ?_⟩
  rw [finishTransfer_restarts _ deferral unheld]
  exact cleared

/-- A code that names a command is the command's code (R171). -/
theorem code_of_ofCode {code : Byte} {c : Command} (named : Command.ofCode code = some c) : code = c.code := by
  have codes : ∀ e ∈ commandCodes, e.2 = e.1.code := by decide
  obtain ⟨e, found, rfl⟩ := Option.map_eq_some_iff.mp named
  exact (beq_iff_eq.mp (List.find?_some (p := fun e : Command × Byte => e.2 == code) found)).symm.trans
    (codes e (List.mem_of_find?_eq_some found))

/-- An accepted RESTART that does not take effect at once is held. -/
theorem restart_accepted_held {s : State} {p : Port} {params : List Byte}
    (stays : ¬ RestartsNow s p (Command.restart.code :: params)) (permitted : Command.restart.permitted p = true)
    (fits : params.length = Command.restart.paramBytes) (accepted : (serve .restart p params s).status = .accepted) :
    RestartHeld (serve .restart p params s).state := by
  obtain rfl := List.length_eq_zero_iff.mp fits
  rw [serve_restart, serveRestart] at accepted ⊢
  split at accepted
  · cases accepted
  · next first =>
    rw [if_neg first]
    refine (restartHeld_deferred s).mpr (by_contra fun free => stays ⟨rfl, bne_iff_ne.mp permitted, ?_, free⟩)
    exact Bool.eq_false_iff.mpr first

/-- Any other request leaves what is under assembly on its port. -/
theorem takeRequest_receiving {s : State} {p : Port} {code : Byte} {params : List Byte}
    (stays : ¬ RestartsNow s p (code :: params)) (rx : Option (List Byte)) :
    (receiving s p rx).takeRequest p code params = receiving (s.takeRequest p code params) p rx := by
  unfold State.takeRequest
  split
  · exact respond_receiving s p rx _ _ _
  · next c named =>
    split
    · exact respond_receiving s p rx _ _ _
    · next permitted =>
      split
      · exact respond_receiving s p rx _ _ _
      · next fits =>
        have fits := not_not.mp fits
        dsimp only
        rw [serve_receiving fits, respond_receiving, State.afterResponse, State.afterResponse]
        split
        · next restart =>
          obtain ⟨rfl, accepted⟩ := restart
          rw [code_of_ofCode named] at stays
          have held : RestartHeld ((serve .restart p params s).state.respond p code (serve .restart p params s).status
              (serve .restart p params s).data) :=
            restart_accepted_held stays (Bool.not_eq_false _ ▸ permitted) fits accepted
          exact finishTransfer_receiving (.inr held) p rx
        · rfl

/-! ### The end of a response (R168, R174) -/

theorem exec_responseTransmitted {s : State} (on : s.powered = true) (p : Port) :
    exec (.responseTransmitted p) s = .next (s.responseLeaves p) := whilePowered_on on _

/-- A port whose response has left: its buffer is empty, and a reloaded rate is taken up (R174). -/
def idlePort (x : PortState) : PortState :=
  { x with response := none, buffered := none, baud := x.baudNext.getD x.baud, baudNext := none }

/-- The state in which a port's response has left and no buffered request has been taken yet. -/
def responseLeft (s : State) (p : Port) : State := { s with ports := s.ports.set p (idlePort (s.ports.get p)) }

theorem responseLeft_port (s : State) (p : Port) : (responseLeft s p).ports.get p = idlePort (s.ports.get p) :=
  PerPort.get_set_self _ p _

theorem responseLeaves_unbuffered {s : State} {p : Port} {r : List Byte} (response : (s.ports.get p).response = some r)
    (empty : (s.ports.get p).buffered = none) : s.responseLeaves p = responseLeft s p := by
  simp only [State.responseLeaves, State.port, response, empty]
  rfl

/-- A buffered frame is taken as a good frame that completes then. -/
theorem responseLeaves_buffered {s : State} {p : Port} {r payload : List Byte}
    (response : (s.ports.get p).response = some r) (held : (s.ports.get p).buffered = some payload) :
    s.responseLeaves p = (responseLeft s p).goodFrame p payload := by
  have waiting : ((responseLeft s p).ports.get p).response = none := by rw [responseLeft_port]; rfl
  simp only [State.responseLeaves, State.port, response, held]
  rcases payload with _ | ⟨code, params⟩
  · simp only [State.goodFrame, State.port, waiting]
    rfl
  · rw [goodFrame_waiting waiting]
    rfl

/-- A good frame on a port that waits leaves what is under assembly, but that a RESTART which takes effect clears it. -/
theorem goodFrame_receiving {s : State} {p : Port} (waiting : (s.ports.get p).response = none) (payload : List Byte)
    (rx : Option (List Byte)) :
    (RestartsNow s p payload → (receiving s p rx).goodFrame p payload = s.goodFrame p payload
        ∧ ((s.goodFrame p payload).ports.get p).rx = none)
      ∧ (¬ RestartsNow s p payload →
        (receiving s p rx).goodFrame p payload = receiving (s.goodFrame p payload) p rx) := by
  have waiting' : ((receiving s p rx).ports.get p).response = none := by simpa [receiving] using waiting
  rcases payload with _ | ⟨code, params⟩
  · have nothing : ∀ {t : State}, (t.ports.get p).response = none → t.goodFrame p [] = t := fun {t} h => by
      simp only [State.goodFrame, State.port, h]
    rw [nothing waiting, nothing waiting']
    refine ⟨fun restarts => ?_, fun _ => rfl⟩
    obtain ⟨impossible, -⟩ := restarts
    cases impossible
  · rw [goodFrame_waiting waiting, goodFrame_waiting waiting']
    exact ⟨fun restarts => takeRequest_receiving_restarts restarts rx, fun stays => takeRequest_receiving stays rx⟩

/-- Settles O8: the buffered request is taken on the port that the response has left, whatever is under assembly. -/
theorem responseLeavesThenTheBufferIsTaken : Obligations.ResponseLeavesThenTheBufferIsTaken := by
  intro s p r on response x idle
  have frame : ∀ payload, exec (.frameBuffered p payload) (responseLeft s p) =
      .next ((taken (responseLeft s p) p).goodFrame p payload) := exec_frameBuffered (s := responseLeft s p) on p
  have assembled : ((responseLeft s p).ports.get p).rx = x.rx := by rw [responseLeft_port]; rfl
  refine ⟨fun empty => ?_, fun payload held clear => ?_, fun payload held => ⟨_, frame payload, ?_⟩⟩
  · rw [exec_responseTransmitted on, responseLeaves_unbuffered response empty]
    rfl
  · refine Eq.trans ?_ (frame payload).symm
    rw [exec_responseTransmitted on, responseLeaves_buffered response held, taken_eq_receiving,
      receiving_of_rx (assembled.trans clear)]
  · have waiting : ((taken (responseLeft s p) p).ports.get p).response = none := by
      simp [taken, responseLeft, idlePort]
    obtain ⟨restarted, goesOn⟩ := goodFrame_receiving waiting payload x.rx
    have back : receiving (taken (responseLeft s p) p) p x.rx = responseLeft s p := by
      rw [taken_eq_receiving, receiving_receiving, receiving_of_rx assembled]
    rw [exec_responseTransmitted on, responseLeaves_buffered response held]
    rw [back] at restarted goesOn
    exact ⟨fun restarts => ⟨congrArg _ (restarted restarts).1, (restarted restarts).2⟩,
      fun stays => congrArg _ (goesOn stays)⟩

end Sys2Proof.Claims

/-!
PROOFS. The move log stays bounded and consecutive after every step (R182, R183): the write of a record and a power-on
alone change the log, and every other operation leaves it as it stands.
-/

namespace Sys2Proof.Claims

open Sys2Proof.Machine

/-! ### The write of a record (R183) -/

/-- The invariant of the log itself, by the records' positions. -/
def Consecutive (l : MoveLog) : Prop :=
  l.records.length ≤ 64 ∧ ∀ i (hi : i < l.records.length),
    (l.records[i]).sequence = l.nextSequence - BitVec.ofNat 32 (l.records.length - i)

theorem logConsecutive_iff (s : State) : LogConsecutive s ↔ Consecutive s.log :=
  ⟨fun ⟨room, numbers⟩ => ⟨room, fun i hi => numbers ⟨i, hi⟩⟩,
    fun ⟨room, numbers⟩ => ⟨room, fun i => numbers i i.isLt⟩⟩

/-- The invariant is about the log alone. -/
theorem LogConsecutive.congr {s t : State} (h : LogConsecutive s) (log : t.log = s.log) : LogConsecutive t := by
  rw [logConsecutive_iff] at h ⊢
  rwa [log]

/-- When the next sequence number advances, each record lies one further back, the wrap to 0 included. -/
theorem sequence_advance (next : Word) (back : Nat) :
    next + 1 - BitVec.ofNat 32 (back + 1) = next - BitVec.ofNat 32 back := by
  rw [BitVec.ofNat_add]
  exact add_sub_add_right_eq_sub next _ 1

/-- A record joins the log at its end and takes the next sequence number; the oldest gives way when the log is full. -/
theorem writeLog_keepsLog {s : State} (h : LogConsecutive s) (c : ConnId) (a : Option Phase) (b : Phase) (src : Source)
    (t : Option TriggerId) (g : Option Nat) (e : LogOutcome) : LogConsecutive (s.writeLog c a b src t g e) := by
  obtain ⟨room, numbers⟩ := (logConsecutive_iff s).mp h
  refine (logConsecutive_iff _).mpr ?_
  simp only [Consecutive, State.writeLog, State.withLog_log, List.length_drop, List.length_append,
    List.length_singleton, Config.logRoom, List.getElem_drop, List.getElem_append]
  refine ⟨by omega, fun i hi => ?_⟩
  split
  · next old =>
    have further : s.log.records.length + 1 - (s.log.records.length + 1 - 64) - i
        = s.log.records.length - (s.log.records.length + 1 - 64 + i) + 1 := by omega
    rw [numbers _ old, further, sequence_advance]
  · have last : s.log.records.length + 1 - (s.log.records.length + 1 - 64) - i = 0 + 1 := by omega
    rw [last, sequence_advance]
    simp

/-- Either branch of a choice keeps the log. -/
theorem ite_keepsLog {p : Prop} [Decidable p] {s t : State} (hs : LogConsecutive s) (ht : LogConsecutive t) :
    LogConsecutive (if p then s else t) := by
  split
  · exact hs
  · exact ht

/-! ### Removal from the queue (R96) -/

theorem dropOrder_keepsLog {s : State} (h : LogConsecutive s) (o : Order) (e : LogOutcome) :
    LogConsecutive (s.dropOrder o e) :=
  writeLog_keepsLog (h.congr rfl) _ _ _ _ _ _ _

theorem removeQueued_keepsLog {s : State} (h : LogConsecutive s) (c : ConnId) (e : LogOutcome) :
    LogConsecutive (s.removeQueued c e) := by
  unfold State.removeQueued
  split
  · exact h
  · next o _ => exact (dropOrder_keepsLog h o e).congr (by simp)

theorem removeBalancer_keepsLog {s : State} (h : LogConsecutive s) (c : ConnId) (e : LogOutcome) :
    LogConsecutive (s.removeBalancer c e) := by
  unfold State.removeBalancer
  split
  · exact h
  · exact ite_keepsLog (removeQueued_keepsLog h c e) h

theorem supersede_keepsLog {s : State} (h : LogConsecutive s) (c : ConnId) : LogConsecutive (s.supersede c) := by
  unfold State.supersede
  split
  · exact h
  · exact ite_keepsLog (removeQueued_keepsLog h c _) h

theorem attachRemovals_keepsLog {s : State} (h : LogConsecutive s) (c : ConnId) (old : Connection) :
    LogConsecutive (s.attachRemovals c old) := by
  have lost := ite_keepsLog (p := (s.conn c).presence.lost ∧ (s.conn c).presence ≠ old.presence)
    (removeBalancer_keepsLog h c .notPresent) h
  have moved := ite_keepsLog (p := (s.conn c).recordedPhase ≠ old.recordedPhase) (supersede_keepsLog lost c) lost
  exact ite_keepsLog (removeBalancer_keepsLog moved c .withdrawn) moved

theorem replaceOrder_keepsLog {s : State} (h : LogConsecutive s) (o : Order) : LogConsecutive (s.replaceOrder o) :=
  (dropOrder_keepsLog h o .replaced).congr (by simp [State.replaceOrder])

theorem ageOrders_keepsLog {s : State} (h : LogConsecutive s) : LogConsecutive s.ageOrders :=
  foldl_keeps_prop (P := LogConsecutive) (fun _ (o : Order) hu => removeQueued_keepsLog hu o.conn .expired) _
    (h.congr rfl)

theorem cancelAll_keepsLog {s : State} (h : LogConsecutive s) : LogConsecutive s.cancelAll :=
  foldl_keeps_prop (P := LogConsecutive)
    (fun _ (o : Order) hu => (dropOrder_keepsLog hu o .cancelled).congr (by simp)) _ h

/-! ### The end of a transfer and the return of its order (R105, R144) -/

theorem endTransfer_keepsLog {s : State} (h : LogConsecutive s) (k : CtxId) (x : Context) (e : Ending)
    (disarm : Bool) : LogConsecutive (s.endTransfer k x e disarm) := by
  have moved : LogConsecutive (s.modConn x.order.conn
      fun y => y.afterEnding x.order.target (s.setting .settleInterval) e) := h.congr (by simp)
  have logged := writeLog_keepsLog moved x.order.conn x.sourcePhase x.order.target x.order.source x.order.trigger
    x.order.gain e.outcome
  unfold State.endTransfer
  dsimp only
  split <;> exact logged.congr (by simp)

theorem returnOrder_keepsLog {s : State} (h : LogConsecutive s) (k : CtxId) (x : Context) :
    LogConsecutive (s.returnOrder k x) := by
  unfold State.returnOrder State.meetReturn
  dsimp only
  generalize returned : State.setMotion _ x.order.conn .queued = u
  have back : LogConsecutive u := h.congr (by simp [← returned])
  exact ite_keepsLog (removeBalancer_keepsLog back _ _) (ite_keepsLog back (removeBalancer_keepsLog back _ _))

theorem disarmContext_keepsLog {s : State} (h : LogConsecutive s) (k : CtxId) (x : Context) :
    LogConsecutive (s.disarmContext k x) :=
  ite_keepsLog (endTransfer_keepsLog h k x _ _) ((returnOrder_keepsLog h k x).congr (by simp))

theorem reachContext_keepsLog {s : State} (h : LogConsecutive s) (k : CtxId) : LogConsecutive (s.reachContext k) := by
  unfold State.reachContext
  split
  · exact h
  · exact ite_keepsLog (disarmContext_keepsLog h k _) h

theorem reachContexts_keepsLog {s : State} (h : LogConsecutive s) : LogConsecutive s.reachContexts := by
  have both : ∀ j k, LogConsecutive ((s.reachContext j).reachContext k) := fun j k =>
    reachContext_keepsLog (reachContext_keepsLog h j) k
  exact ite_keepsLog (ite_keepsLog (both _ _) (both _ _)) (both _ _)

/-! ### What a reply tells the part (R126) -/

theorem observeChange_keepsLog {s : State} (h : LogConsecutive s) (c : ConnId) (p q : Phase) :
    LogConsecutive (s.observeChange c p q) := by
  have moved : LogConsecutive (s.modConn c fun x => { x with recordedPhase := some q }) := h.congr (by simp)
  exact (writeLog_keepsLog moved c (some p) q .localSwitch none none .observed).congr (by simp [State.observeChange])

theorem takePhase_keepsLog {s : State} (h : LogConsecutive s) (c : ConnId) (r : PollReport) :
    LogConsecutive (s.takePhase c r) := by
  have written : ∀ x, LogConsecutive (s.setConn c x) := fun _ => h.congr (by simp)
  unfold State.takePhase
  refine ite_keepsLog ?_ h
  split
  · exact written _
  · exact ite_keepsLog h (ite_keepsLog (written _) (observeChange_keepsLog h c _ _))
  · exact ite_keepsLog h (written _)

theorem takePoll_keepsLog {s : State} (h : LogConsecutive s) (c : ConnId) (r : PollReport) :
    LogConsecutive (s.takePoll c r) := by
  have reported : LogConsecutive (s.takeReport c r) := h.congr (by simp)
  exact (takePhase_keepsLog reported c r).congr (by simp [State.takePoll])

theorem takeContent_keepsLog {s : State} (h : LogConsecutive s) (c : ConnId) (r : Reply) :
    LogConsecutive (s.takeContent c r) := by
  unfold State.takeContent
  split
  · exact takePoll_keepsLog h c _
  · exact h.congr (by simp)
  all_goals exact h

/-! ### What is handed to a context -/

theorem takeArmed_keepsLog {s : State} (h : LogConsecutive s) (k : CtxId) (x : Context) (mismatch : Bool) :
    LogConsecutive (s.takeArmed k x mismatch) :=
  ite_keepsLog (endTransfer_keepsLog h k x _ _) (h.congr (by simp))

theorem takeRefusal_keepsLog {s : State} (h : LogConsecutive s) (k : CtxId) (x : Context) (reason : ArmRefusal)
    (mismatch : Bool) : LogConsecutive (s.takeRefusal k x reason mismatch) :=
  ite_keepsLog (endTransfer_keepsLog h k x _ _) (endTransfer_keepsLog h k x _ _)

theorem takeNotArmed_keepsLog {s : State} (h : LogConsecutive s) (k : CtxId) (x : Context) (mismatch : Bool) :
    LogConsecutive (s.takeNotArmed k x mismatch) := by
  have ends := endTransfer_keepsLog h k x
  have reArmed : LogConsecutive (s.reArm k x) := h.congr (by simp [State.reArm])
  exact ite_keepsLog (ends _ _) (ite_keepsLog (ends _ _)
    (ite_keepsLog (ite_keepsLog (ends _ _) reArmed) (disarmContext_keepsLog h k x)))

theorem takeConfirm_keepsLog {s : State} (h : LogConsecutive s) (k : CtxId) (x : Context) (r : PollReport)
    (mismatch : Bool) : LogConsecutive (s.takeConfirm k x r mismatch) := by
  refine ite_keepsLog h ?_
  split
  · exact endTransfer_keepsLog h k x _ _
  · exact h

theorem handReply_keepsLog {s : State} (h : LogConsecutive s) (o : Outstanding) (r : Reply) (mismatch : Bool) :
    LogConsecutive (s.handReply o r mismatch) := by
  unfold State.handReply
  split
  · split
    · exact h
    · split
      · exact takeConfirm_keepsLog h _ _ _ _
      · exact takeArmed_keepsLog h _ _ _
      · exact takeRefusal_keepsLog h _ _ _ _
      · exact h.congr (by simp [State.takeFiring])
      · exact takeNotArmed_keepsLog h _ _ _
      · exact h
  · exact h.congr (by simp)
  · exact h
  · exact h

theorem handLapse_keepsLog {s : State} (h : LogConsecutive s) (o : Outstanding) : LogConsecutive (s.handLapse o) := by
  have raisedAgain : ∀ k x, LogConsecutive (s.setContext k x) := fun _ _ => h.congr (by simp)
  unfold State.handLapse
  split
  · split
    · exact h
    · split
      · exact ite_keepsLog (raisedAgain _ _) (endTransfer_keepsLog h _ _ _ _)
      · exact ite_keepsLog (raisedAgain _ _) (endTransfer_keepsLog h _ _ _ _)
      · exact h
      · exact h
  · exact h.congr (by simp)
  · exact h
  · exact h

/-! ### The last parts of an event -/

theorem finish_keepsLog {s : State} (h : LogConsecutive s) : LogConsecutive s.finish := h.congr (by simp)

/-- A restart keeps the log, with the queued orders' CANCELLED records behind it (R192). -/
theorem restartEffect_keepsLog {s : State} (h : LogConsecutive s) : LogConsecutive s.restartEffect :=
  (cancelAll_keepsLog h).congr (by simp [State.restartEffect])

theorem finishTransfer_keepsLog {s : State} (h : LogConsecutive s) : LogConsecutive s.finishTransfer := by
  have before : LogConsecutive s.takeFireSlot.dispatchChoice := h.congr (by simp)
  have due : LogConsecutive s.takeFireSlot.dispatchChoice.restartIfDue :=
    ite_keepsLog (restartEffect_keepsLog before) before
  exact due.congr (by simp [State.finishTransfer])

theorem goodReply_keepsLog {s : State} (h : LogConsecutive s) (o : Outstanding) (serial : Word) (r : Reply) :
    LogConsecutive (s.goodReply o serial r) := by
  have ended : LogConsecutive s.endOutstanding := h.congr (by simp)
  have seen : LogConsecutive (s.endOutstanding.presenceReply o.conn serial).1 := ended.congr (by simp)
  exact ite_keepsLog
    (finishTransfer_keepsLog (attachRemovals_keepsLog
      (handReply_keepsLog (ite_keepsLog seen (takeContent_keepsLog seen o.conn r)) o r _) o.conn _))
    (finishTransfer_keepsLog (ite_keepsLog (ended.congr (by simp)) ended))

theorem lapseOutstanding_keepsLog {s : State} (h : LogConsecutive s) (o : Outstanding) :
    LogConsecutive (s.lapseOutstanding o) := by
  have ended : LogConsecutive s.endOutstanding := h.congr (by simp)
  have lapsed : LogConsecutive (s.endOutstanding.presenceLapse o.conn) := ended.congr (by simp)
  exact ite_keepsLog
    (finishTransfer_keepsLog (attachRemovals_keepsLog (handLapse_keepsLog lapsed o) o.conn _))
    (finishTransfer_keepsLog (ite_keepsLog (ended.congr (by simp)) ended))

/-! ### The requests -/

theorem admitMove_keepsLog {s : State} (h : LogConsecutive s) (p : Port) (c : ConnId) (target : Phase)
    (priority life : Nat) (how evicted : Byte) :
    LogConsecutive (s.admitMove p c target priority life how evicted).state :=
  finish_keepsLog (h.congr (by simp))

theorem placeMove_keepsLog {s : State} (h : LogConsecutive s) (p : Port) (c : ConnId) (target : Phase)
    (priority life : Nat) : LogConsecutive (s.placeMove p c target priority life).state := by
  unfold State.placeMove
  repeat' split
  · exact admitMove_keepsLog (replaceOrder_keepsLog h _) p c target priority life _ _
  · exact h
  · exact admitMove_keepsLog h p c target priority life _ _
  · exact admitMove_keepsLog (removeQueued_keepsLog h _ _) p c target priority life _ _
  · exact h

theorem serveMove_keepsLog {s : State} (h : LogConsecutive s) (p : Port) (n target priority : Byte) (life : Half) :
    LogConsecutive (serveMove p n target priority life s).state := by
  unfold serveMove
  repeat' split
  · exact h
  · exact h
  · exact h
  · exact h
  · exact placeMove_keepsLog h p _ _ _ _

theorem serveWriteSetting_log (n : Byte) (value : Word) (s : State) :
    (serveWriteSetting n value s).state.log = s.log := by
  unfold serveWriteSetting
  repeat' split
  all_goals simp

theorem serveWriteTrigger_log (n enabled phases quantity comparison : Byte) (threshold : Word) (persistence : Byte)
    (s : State) :
    (serveWriteTrigger n enabled phases quantity comparison threshold persistence s).state.log = s.log := by
  unfold serveWriteTrigger
  repeat' split
  all_goals simp

theorem serveWriteConnection_log (n kind allowed : Byte) (serial : Word) (s : State) :
    (serveWriteConnection n kind allowed serial s).state.log = s.log := by
  unfold serveWriteConnection
  repeat' split
  all_goals simp

/-- A request writes records for the orders that it removes or withdraws; the other requests leave the log. -/
theorem serve_keepsLog (c : Command) (p : Port) (params : List Byte) {s : State}
    (fits : params.length = c.paramBytes) (h : LogConsecutive s) : LogConsecutive (serve c p params s).state := by
  apply serve_cases_of_reads (fits := fits)
  case same => exact h
  case move => exact serveMove_keepsLog h p
  case writeSetting => exact fun n value => h.congr (serveWriteSetting_log n value s)
  case writeConnection => exact fun n kind allowed serial => h.congr (serveWriteConnection_log n kind allowed serial s)
  case writeTrigger => exact fun _ _ _ _ _ _ _ => h.congr (serveWriteTrigger_log _ _ _ _ _ _ _ s)
  case cancel =>
    intro n
    unfold serveCancel
    repeat' split
    · exact h
    · exact finish_keepsLog (removeQueued_keepsLog h _ _)
    · exact h
    · exact h
  case pin =>
    intro n
    unfold servePin
    repeat' split
    · exact h
    · exact h
    · exact h
    · exact finish_keepsLog (removeBalancer_keepsLog (h.congr (by simp)) _ _)
  case hold =>
    have held : LogConsecutive (s.withHold (s.hold.put p true)) := h.congr rfl
    have reached := reachContexts_keepsLog (held.congr (t := (s.withHold (s.hold.put p true)).reviewStopping) (by simp))
    exact ite_keepsLog (finish_keepsLog (reached.congr rfl)) held
  case restart =>
    unfold serveRestart
    split
    · exact h
    · exact reachContexts_keepsLog (h.congr rfl)
  case reprioritize =>
    intro n priority
    unfold serveReprioritize
    repeat' split
    · exact h
    · exact h
    · exact h.congr (by simp)
    · exact h
    · exact h
  case unpin =>
    intro n
    unfold serveUnpin
    repeat' split
    · exact h
    · exact h.congr (by simp)
    · exact h
  case unpinAll =>
    unfold serveUnpinAll
    dsimp only
    split
    · exact h
    · exact h.congr (by simp)
  case release => exact ite_keepsLog (h.congr (by simp)) (h.congr rfl)
  case pause =>
    unfold servePause
    split
    · exact h
    · exact h.congr (by simp)
  case resume =>
    unfold serveResume
    split
    · exact h.congr (by simp)
    · exact h
  case clearFault =>
    intro n
    unfold serveClearFault
    dsimp only
    repeat' split
    · exact h
    · exact h
    · exact h.congr (by simp)
    · exact h
  case survey =>
    unfold serveSurvey
    split
    · exact h
    · exact h.congr (by simp)
  case clearAlarms => exact fun _ => h.congr rfl
  case setAlarmMask => exact fun _ => h.congr rfl
  case saveSettings =>
    unfold serveSaveSettings
    split
    · exact h
    · exact h.congr rfl
  case setTime => exact fun _ => ite_keepsLog (h.congr (by simp)) (h.congr (by simp))

/-! ### Every step -/

/-- After power-on the log is empty (R190). -/
theorem powerOn_logConsecutive (s : State) : LogConsecutive s.powerOn :=
  logConsecutive_of_empty (by simp [State.powerOn, poweredUp])

theorem oneSecond_keepsLog {s : State} (h : LogConsecutive s) :
    LogConsecutive ((s.setPartTime (s.partTime + 1)).mapConns fun _ x => x.second).ageOrders.surveySecond.finish := by
  have counted : LogConsecutive ((s.setPartTime (s.partTime + 1)).mapConns fun _ x => x.second) := h.congr (by simp)
  exact (ageOrders_keepsLog counted).congr (by simp)

theorem survives_logConsecutive : Survives LogConsecutive where
  pending _ _ h := h.congr rfl
  setPort _ _ _ h := h.congr rfl
  setRx _ _ h := h.congr rfl
  serve c p params _ fits h := serve_keepsLog c p params fits h
  finishTransfer _ h := finishTransfer_keepsLog h
  acceptWindow _ _ h := h.congr (by simp [State.acceptWindow])
  goodReply _ o serial r h _ _ := goodReply_keepsLog h o serial r
  lapseOutstanding _ o h _ := lapseOutstanding_keepsLog h o
  powerOn s t _ e := by
    injection e with e
    exact e ▸ powerOn_logConsecutive s
  supplyLost s t h e := by
    injection e with e
    exact e ▸ ite_keepsLog (h.congr rfl) h
  oneSecond _ _ h e := whilePowered_keeps h (oneSecond_keepsLog h) e
  saveEnd s t h e := by
    refine whilePowered_keeps h ?_ e
    split
    · exact h
    · exact finishTransfer_keepsLog (h.congr rfl)
  restart s _ h e := by
    have restarted : LogConsecutive s.restartEffect.arbitrate.setLines := (restartEffect_keepsLog h).congr (by simp)
    exact whilePowered_keeps h (ite_keepsLog restarted h) e
  quietCount s _ h e := by
    have watching : LogConsecutive s.enterWatch.finish := h.congr (by simp)
    exact whilePowered_keeps h (ite_keepsLog watching h) e
  staleness s _ h e := by
    have stale : LogConsecutive ((s.withMetering s.metering.expire).raise .meteringLost).reviewStopping.setLines :=
      h.congr (by simp)
    exact whilePowered_keeps h (ite_keepsLog stale h) e
  routineSpacing s _ h e := by
    have raised : ∀ b, LogConsecutive (s.withBus b).arbitrate := fun _ => h.congr (by simp)
    exact whilePowered_keeps h (ite_keepsLog (raised _) h) e
  surveyTimer _ _ h e := whilePowered_keeps h (h.congr (by simp)) e
  arrivalHold c s _ h e := by
    have arrived : ∀ f, LogConsecutive (s.modConn c f).finish := fun _ => h.congr (by simp)
    exact whilePowered_keeps h (ite_keepsLog (arrived _) h) e
  settle c s _ h e := by
    have settled : ∀ f, LogConsecutive (s.modConn c f).finish := fun _ => h.congr (by simp)
    exact whilePowered_keeps h (ite_keepsLog (settled _) h) e
  expired c _ _ h e :=
    whilePowered_keeps h (ite_keepsLog (finish_keepsLog (removeQueued_keepsLog h c .expired)) h) e
  armDeadline k s t h e := by
    refine whilePowered_keeps h ?_ e
    split
    · exact h
    · next x _ => exact ite_keepsLog ((returnOrder_keepsLog h k x).congr (by simp)) h
  confirmTimer k s t h e := by
    refine whilePowered_keeps h ?_ e
    split
    · exact h
    · exact ite_keepsLog (h.congr (by simp)) h
  confirmDeadline k s t h e := by
    refine whilePowered_keeps h ?_ e
    split
    · exact h
    · next x _ => exact ite_keepsLog (finishTransfer_keepsLog (endTransfer_keepsLog h k x _ _)) h

/-- Settles O57: a step is made of parts that leave the log, add records to it one by one, or empty it. -/
theorem everyStepKeepsTheLog : Obligations.EveryStepKeepsTheLog :=
  fun _ _ consecutive step => survives_logConsecutive.step consecutive step

end Sys2Proof.Claims

/-!
PROOFS. The loss of supply (R189): all operation ends, and nothing but POWER_ON begins it again (log entry 4).
-/

namespace Sys2Proof.Claims

open Sys2Proof.Machine

/-- Log entry 4: the counterpart of `whilePowered_on` for a part without supply. -/
theorem whilePowered_off {s : State} (off : s.powered = false) (t : State) : s.whilePowered t = .next s := by
  simp [State.whilePowered, off]

/-- While supply is applied its loss ends operation; the copy of a save in progress goes with it, and so does the good
image (R189). -/
theorem exec_supplyLost_on {s : State} (on : s.powered = true) :
    exec .supplyLost s = .next { s with powered := false, image := imageFound s, saving := none } := by
  show execSupplyLost s = _
  rw [execSupplyLost, if_pos on]
  rfl

/-- Without supply every command but POWER_ON leaves the state as it stood: a bus frame that fails the reply test, a
lapse with no request outstanding and a second loss of supply each by their own case, the others by `whilePowered`. -/
theorem exec_off {c : Instr} {s : State} (off : s.powered = false) (other : c ≠ .powerOn) : exec c s = .next s := by
  cases c with
  | powerOn => exact absurd rfl other
  | supplyLost =>
    show execSupplyLost s = _
    simp [execSupplyLost, off]
  | busFrameDiscarded frame =>
    show execBusFrameDiscarded frame s = _
    unfold execBusFrameDiscarded
    split
    · rfl
    · exact whilePowered_off off _
  | lapse =>
    show execLapse s = _
    unfold execLapse
    split
    · rfl
    · exact whilePowered_off off _
  | _ => exact whilePowered_off off _

/-- Settles O4: the loss of supply is its own case of the step, and afterwards only POWER_ON is not inert. -/
theorem supplyLostEndsOperation : Obligations.SupplyLostEndsOperation :=
  ⟨fun _ on => exec_supplyLost_on on, fun _ _ off other => exec_off off other⟩

end Sys2Proof.Claims
